-- ==== Sys2Proof/Word.lean ====
section
/-! DEFINITION. The widths of the part's words and numbers: host words, physical frame numbers, and
the numbers of ports, contexts and watch windows. -/

namespace Sys2Proof

/-- A word: 32 bits (00_scope.md, Conventions). -/
abbrev Word := BitVec 32

/-- A physical frame number, 0–1,048,575 (R1). -/
abbrev FrameNumber := BitVec 20

/-- A LENGTH on a port link, 0–127 (R33). -/
abbrev BurstLength := BitVec 7

/-- A port number, P0–P5. -/
abbrev PortId := Fin 6

/-- A context number, C0–C15. -/
abbrev ContextId := Fin 16

/-- A watch window number, W0–W3. -/
abbrev WindowId := Fin 4

end Sys2Proof
end

