-- ==== Sys2Proof/Syntax.lean ====
section
/-! DEFINITION. The commands of the part: one constructor for each row of spec/opcode_table.json,
with the row's operands, and the messages they carry. -/

namespace Sys2Proof

/-- DIRECTION of a request, a burst or a transaction (R33). -/
inductive Direction where
  | read
  | write
deriving DecidableEq, Repr

/-- A REQUEST on a port link (R33): DIRECTION, LOGICAL ADDRESS, LENGTH and, for a WRITE, the WRITE
DATA in order of ascending address. -/
structure Request where
  direction : Direction
  address : Word
  length : BurstLength
  data : List Word
deriving DecidableEq, Repr

/-- Memory's answer to a transaction (R104): OK, with the words read when it is a read, or ERROR. -/
inductive MemoryAnswer where
  | ok (words : List Word)
  | error
deriving DecidableEq, Repr

/-- Which of the events of R165 a host command names. R165 separates the take (the write to COMMAND)
from the performance at the owner, and other events may come between; `whole` is the take with the
performance following at once, the step of the command table (log 1). The completion is a command
of its own, `commandUnitCompletion`. -/
inductive CommandEvent where
  | take
  | perform
  | whole
deriving DecidableEq, Repr

/-- The commands: the rows of spec/opcode_table.json, in the table's order. -/
inductive Instr where
  /-- DEFINE_CONTEXT, code 10h (R22). -/
  | defineContext (event : CommandEvent)
  /-- DELETE_CONTEXT, code 11h (R24). -/
  | deleteContext (event : CommandEvent)
  /-- READ_CONTEXT, code 12h (R25). -/
  | readContext (event : CommandEvent)
  /-- WRITE_ENTRY, code 20h (R15). -/
  | writeEntry (event : CommandEvent)
  /-- TEST_ENTRY, code 21h (R16). -/
  | testEntry (event : CommandEvent)
  /-- PROBE, code 22h (R17). -/
  | probe (event : CommandEvent)
  /-- BIND_PORT, code 30h (R46). -/
  | bindPort (event : CommandEvent)
  /-- RELEASE_PORT, code 31h (R47). -/
  | releasePort (event : CommandEvent)
  /-- SUSPEND_PORT, code 32h (R49). -/
  | suspendPort (event : CommandEvent)
  /-- ADMIT_PORT, code 33h (R49). -/
  | admitPort (event : CommandEvent)
  /-- READ_PORT, code 34h (R50). -/
  | readPort (event : CommandEvent)
  /-- FLUSH_PORT, code 35h (R91). -/
  | flushPort (event : CommandEvent)
  /-- RESUME_HELD, code 36h (R158). -/
  | resumeHeld (event : CommandEvent)
  /-- CANCEL_HELD, code 37h (R159). -/
  | cancelHeld (event : CommandEvent)
  /-- POP_FAULT, code 40h (R118). -/
  | popFault (event : CommandEvent)
  /-- START_LOAD, code 50h (R129). -/
  | startLoad (event : CommandEvent)
  /-- START_DUMP, code 51h (R129). -/
  | startDump (event : CommandEvent)
  /-- START_FILL, code 52h (R129). -/
  | startFill (event : CommandEvent)
  /-- ABORT_TRANSFER, code 53h (R142). -/
  | abortTransfer (event : CommandEvent)
  /-- SET_WINDOW, code 60h (R151). -/
  | setWindow (event : CommandEvent)
  /-- READ_WINDOW, code 61h (R152). -/
  | readWindow (event : CommandEvent)
  /-- QUIESCE, code 70h (R181). -/
  | quiesce (event : CommandEvent)
  /-- WAKE, code 71h (R182). -/
  | wake (event : CommandEvent)
  /-- SET_FRAME_LIMIT, code 72h (R183). -/
  | setFrameLimit (event : CommandEvent)
  /-- SOFT_RESET, code 7Fh (R170). -/
  | softReset (event : CommandEvent)
  /-- UNKNOWN_COMMAND: a write to COMMAND whose code, bits 0–7, is none of the 25 (R168). -/
  | unknownCommand (word : Word)
  /-- DISCARDED_COMMAND_WRITE: a write to COMMAND while the unit is BUSY (R167). -/
  | discardedCommandWrite (word : Word)
  /-- PARAM_WRITE: a write to PARAM0–PARAM5 (R166). -/
  | paramWrite (index : Fin 6) (word : Word)
  /-- EVENTS_ACKNOWLEDGE: a write to EVENTS (R178). -/
  | eventsAcknowledge (word : Word)
  /-- EVENT_ENABLE_WRITE: a write to EVENT ENABLE (R179). -/
  | eventEnableWrite (word : Word)
  /-- IGNORED_REGISTER_WRITE: a write to a read-only or unused word of the window (R163); `number`
  is the word's offset divided by 4. -/
  | ignoredRegisterWrite (number : Fin 32) (word : Word)
  /-- POWER_ON_RESET: the application of power (R184). -/
  | powerOnReset
  /-- PIN_RESET: the assertion of the reset input (R184). -/
  | pinReset
  /-- PIN_RESET_RELEASE: the release of the reset input (R184). -/
  | pinResetRelease
  /-- REQUEST_PRESENTED: a channel places a request on its link (R36). -/
  | requestPresented (port : PortId) (request : Request)
  /-- REQUEST_WITHDRAWN: a channel withdraws a request not yet taken (R37). -/
  | requestWithdrawn (port : PortId)
  /-- OPENING_EVENT of the port's burst (R55). -/
  | openingEvent (port : PortId)
  /-- PAGE_LOOKUP of the port's burst (R55, R65). -/
  | pageLookup (port : PortId)
  /-- RESUMPTION_EVENT of the port's burst (R55, R60). -/
  | resumptionEvent (port : PortId)
  /-- PORT_TRANSACTION_ANSWER: memory answers a port's segment (R106). -/
  | portTransactionAnswer (answer : MemoryAnswer)
  /-- LOAD_CHUNK_ANSWER: memory answers a LOAD chunk read (R133). -/
  | loadChunkAnswer (answer : MemoryAnswer)
  /-- DUMP_CHUNK_ANSWER: memory answers a DUMP chunk write (R138). -/
  | dumpChunkAnswer (answer : MemoryAnswer)
  /-- LATE_ANSWER: the answer to the LATE TRANSACTION (R144). -/
  | lateAnswer (answer : MemoryAnswer)
  /-- DISCARDED_ANSWER: the answer to a transaction left in flight by a reset (R110). -/
  | discardedAnswer (answer : MemoryAnswer)
  /-- LOAD_CHUNK_BEGIN: the engine begins a LOAD's chunk (R133). -/
  | loadChunkBegin
  /-- LOAD_ENTRY_WRITE: the engine writes one entry of a LOAD chunk (R134). -/
  | loadEntryWrite
  /-- FILL_ENTRY_WRITE: the engine writes one entry of a FILL (R136). -/
  | fillEntryWrite
  /-- DUMP_ENTRY_READ: the engine reads one entry of a DUMP chunk (R137). -/
  | dumpEntryRead
  /-- COMMAND_UNIT_COMPLETION: the command unit completes the command performed (R165). -/
  | commandUnitCompletion
deriving DecidableEq, Repr

end Sys2Proof
end

