-- ==== Sys2Proof/Decode.lean ====
section
/-! DEFINITION. The command codes of section 10.4, the command that a host write to the window is (R163,
R165), and the decoding of table words. No row of spec/opcode_table.json gives bits, so no word spells a
command by the table. -/

namespace Sys2Proof

/-- The code of a host command and the event of it that is named (section 10.4); none for the other
commands. -/
def Instr.hostCommand : Instr → Option (BitVec 8 × CommandEvent)
  | .defineContext e => some (0x10#8, e)
  | .deleteContext e => some (0x11#8, e)
  | .readContext e => some (0x12#8, e)
  | .writeEntry e => some (0x20#8, e)
  | .testEntry e => some (0x21#8, e)
  | .probe e => some (0x22#8, e)
  | .bindPort e => some (0x30#8, e)
  | .releasePort e => some (0x31#8, e)
  | .suspendPort e => some (0x32#8, e)
  | .admitPort e => some (0x33#8, e)
  | .readPort e => some (0x34#8, e)
  | .flushPort e => some (0x35#8, e)
  | .resumeHeld e => some (0x36#8, e)
  | .cancelHeld e => some (0x37#8, e)
  | .popFault e => some (0x40#8, e)
  | .startLoad e => some (0x50#8, e)
  | .startDump e => some (0x51#8, e)
  | .startFill e => some (0x52#8, e)
  | .abortTransfer e => some (0x53#8, e)
  | .setWindow e => some (0x60#8, e)
  | .readWindow e => some (0x61#8, e)
  | .quiesce e => some (0x70#8, e)
  | .wake e => some (0x71#8, e)
  | .setFrameLimit e => some (0x72#8, e)
  | .softReset e => some (0x7F#8, e)
  | .unknownCommand _ | .discardedCommandWrite _ | .paramWrite _ _ | .eventsAcknowledge _
  | .eventEnableWrite _ | .ignoredRegisterWrite _ _ | .powerOnReset | .pinReset
  | .pinResetRelease | .requestPresented _ _ | .requestWithdrawn _ | .openingEvent _
  | .pageLookup _ | .resumptionEvent _ | .portTransactionAnswer _ | .loadChunkAnswer _
  | .dumpChunkAnswer _ | .lateAnswer _ | .discardedAnswer _ | .loadChunkBegin
  | .loadEntryWrite | .fillEntryWrite | .dumpEntryRead | .commandUnitCompletion => none

/-- The 25 commands with their codes (section 10.4). -/
def commandTable : List (BitVec 8 × (CommandEvent → Instr)) :=
  [(0x10#8, .defineContext), (0x11#8, .deleteContext), (0x12#8, .readContext)] ++
  [(0x20#8, .writeEntry), (0x21#8, .testEntry), (0x22#8, .probe)] ++
  [(0x30#8, .bindPort), (0x31#8, .releasePort), (0x32#8, .suspendPort), (0x33#8, .admitPort),
    (0x34#8, .readPort), (0x35#8, .flushPort), (0x36#8, .resumeHeld), (0x37#8, .cancelHeld)] ++
  [(0x40#8, .popFault)] ++
  [(0x50#8, .startLoad), (0x51#8, .startDump), (0x52#8, .startFill), (0x53#8, .abortTransfer)] ++
  [(0x60#8, .setWindow), (0x61#8, .readWindow)] ++
  [(0x70#8, .quiesce), (0x71#8, .wake), (0x72#8, .setFrameLimit), (0x7F#8, .softReset)]

/-- The 25 known codes (section 10.4). -/
def knownCodes : List (BitVec 8) := commandTable.map Prod.fst

/-- The code of a word written to COMMAND: bits 0–7; bits 8–31 are ignored (R165). -/
def commandCode (word : Word) : BitVec 8 := word.extractLsb' 0 8

/-- The take that a word written to COMMAND is: of the command with its code (R165), or of a code that
is not known (R168). While STATUS is BUSY the take is the discarded write of R167. -/
def commandWrite (word : Word) : Instr :=
  match commandTable.find? fun entry => entry.1 == commandCode word with
  | some entry => entry.2 .take
  | none => .unknownCommand word

/-- The command that a host write of a word to a word of the window is (R163); `number` is the offset
divided by 4: COMMAND is word 2, PARAM0–PARAM5 are 3 to 8, EVENTS is 13 and EVENT ENABLE 14; a write to
any other word is ignored. -/
def windowWrite (number : Fin 32) (word : Word) : Instr :=
  if number.val = 2 then commandWrite word
  else if h : 3 ≤ number.val ∧ number.val ≤ 8 then .paramWrite ⟨number.val - 3, by omega⟩ word
  else if number.val = 13 then .eventsAcknowledge word
  else if number.val = 14 then .eventEnableWrite word
  else .ignoredRegisterWrite number word

/-- The command that a word spells by the table's bits: the table gives no row any bits. -/
def decodeTableWord (_nbits _w : Nat) : Option Instr := none

end Sys2Proof
end

