-- ==== Sys2Proof/Config.lean ====
section
/-! DEFINITION. The fixed quantities of the part (00_scope.md, Fixed quantities; R171 for IDENT).
The spec leaves no result, flag or register of the part undefined after a command, so this file holds
no free value. -/

namespace Sys2Proof.Config

/-- Map store entries, index 0–2047 (R1). -/
@[simp] abbrev storeEntries : Nat := 2048

/-- Physical frames, and the frame limit after a power-on or pin reset (R183). -/
@[simp] abbrev frameCount : Nat := 1048576

/-- Bytes in a page and in a frame. -/
@[simp] abbrev pageBytes : Nat := 4096

/-- Burst lengths translation accepts: 1–64 words (R57). -/
@[simp] abbrev maxBurstWords : Nat := 64

/-- Copies in one lookaside buffer, at most 8 (R84). -/
@[simp] abbrev lookasideCopies : Nat := 8

/-- Records in the fault queue, at most 16 (R113). -/
@[simp] abbrev faultRecords : Nat := 16

/-- Entries in one transfer chunk, at most 8 (R127). -/
@[simp] abbrev chunkEntries : Nat := 8

/-- Where a watch window's HIT COUNT stops (R150). -/
@[simp] abbrev hitCountStop : Nat := 65535

/-- IDENT: revision 01h in bits 0–7, family code 6160h in bits 16–31 (R171). -/
def ident : Word := 0x61600001#32

end Sys2Proof.Config
end

