-- ==== Sys2Proof/Machine/State.lean ====
section
/-! DEFINITION. Every piece of state the spec gives the 6160, as plain data, and the machine right
after a power-on reset. -/

namespace Sys2Proof.Machine

open Sys2Proof

/-! ## The map store (chapter 1) -/

/-- The hidden check of an entry (R2). -/
inductive Check where
  | good
  | bad
deriving DecidableEq, Repr

/-- The six fields of a map entry (R1). -/
structure Fields where
  frame : FrameNumber
  valid : Bool
  read : Bool
  write : Bool
  touched : Bool
  dirty : Bool
deriving DecidableEq, Repr

/-- A map entry: its fields and its check (R1, R2). -/
structure MapEntry where
  fields : Fields
  check : Check
deriving DecidableEq, Repr

/-- The power-on value of an entry: FRAME 0, every field clear, check GOOD (R19). -/
def MapEntry.powerOn : MapEntry :=
  { fields := ⟨0#20, false, false, false, false, false⟩, check := .good }

/-- The map store. `entries` lists, by strictly rising index, the entries that differ from the
power-on value; an index not listed holds the power-on value (log 8). -/
structure MapStore where
  entries : List (Nat × MapEntry)
  /-- The STORE ERROR INDEX word: an index, or none (R12). -/
  errorIndex : Option Nat
deriving DecidableEq, Repr

/-! ## The context table (chapter 2) -/

/-- TRANSFER MARK (R20). -/
inductive TransferMark where
  | none
  | plain
  | fenced
deriving DecidableEq, Repr

/-- A context record (R20); `defined` is STATE. -/
structure Context where
  defined : Bool
  base : Nat
  pages : Nat
  readOnly : Bool
  bindCount : Nat
  mark : TransferMark
deriving DecidableEq, Repr

/-- A FREE record (R20). -/
def Context.free : Context := ⟨false, 0, 0, false, 0, .none⟩

/-! ## Ports, bursts and links (chapters 3, 4, 5) -/

/-- The twelve fault kinds (R34, R111). -/
inductive FaultKind where
  | unbound
  | misaligned
  | length
  | readonly
  | bound
  | parity
  | invalid
  | noRead
  | noWrite
  | limit
  | watch
  | memory
deriving DecidableEq, Repr

/-- The kind a REFUSED carries: a fault kind, or RESET (R34). -/
inductive RefusedKind where
  | fault (kind : FaultKind)
  | reset
deriving DecidableEq, Repr

/-- An answer on a port link (R34); DONE for a WRITE carries no data. -/
inductive LinkAnswer where
  | done (data : List Word)
  | refused (kind : RefusedKind)
deriving DecidableEq, Repr

/-- A place in a burst: PAGE INDEX, CURRENT PAGE, PAGE COUNT or segment number, 1 or 2. -/
inductive PageIndex where
  | one
  | two
deriving DecidableEq, Repr

/-- The current request, as taken (R39). -/
structure CurrentRequest where
  direction : Direction
  address : Word
  length : BurstLength
deriving DecidableEq, Repr

/-- A PAGE RESULT of the progress record (R54). -/
structure PageResult where
  page : Nat
  storeIndex : Nat
  frame : FrameNumber
  words : Nat
deriving DecidableEq, Repr

/-- The progress record of a burst whose PHASE is WALKING (R54). -/
structure Walk where
  pageCount : PageIndex
  currentPage : PageIndex
  results : List PageResult
deriving DecidableEq, Repr

/-- A physical segment, with what it keeps of its page (R75). -/
structure Segment where
  start : Word
  words : Nat
  pageIndex : PageIndex
  storeIndex : Nat
  frame : FrameNumber
deriving DecidableEq, Repr

/-- The one or two segments of a translated burst (R75). -/
structure Segments where
  first : Segment
  second : Option Segment
deriving DecidableEq, Repr

/-- The burst of a port. The seven burst states of R39, each with what is held in it: LOOKUP is
`opening` or `walking` by the PHASE of its progress record, FENCED has PHASE WAITING (R54); the
current request is absent in IDLE alone, the hold set and the WATCH segment are present in HELD
alone (R39, R156). The record of a STALLED port lies in the stall list (R116). -/
inductive Burst where
  | idle
  | opening (request : CurrentRequest)
  | walking (request : CurrentRequest) (walk : Walk)
  | fenced (request : CurrentRequest)
  | held (request : CurrentRequest) (segments : Segments) (holdSet : List WindowId)
      (watchSegment : PageIndex)
  | stalled (request : CurrentRequest)
  | queued (request : CurrentRequest) (segments : Segments)
  | moving (request : CurrentRequest) (segments : Segments)
deriving DecidableEq, Repr

/-- GATE (R39). -/
inductive Gate where
  | suspended
  | admitted
deriving DecidableEq, Repr

/-- A copy in a lookaside buffer: the entry's fields less its check, with its two keys (R84). -/
structure Copy where
  page : Nat
  storeIndex : Nat
  fields : Fields
deriving DecidableEq, Repr

/-- A port link: the request presented and not yet taken (R36), and the answers sent, oldest first
(R34; the record of them is the model's own, log 6). -/
structure Link where
  waiting : Option Request
  answers : List LinkAnswer
deriving DecidableEq, Repr

/-- A channel port (R39). `lookaside` is in most-recently-used order, front first (R84). -/
structure Port where
  binding : Option ContextId
  gate : Gate
  burst : Burst
  buffer : Vector Word 64
  lookaside : List Copy
  link : Link
deriving DecidableEq, Repr

/-- A port after a reset (R53). The buffer has no meaning there; its words are 0 by choice (log 7). -/
def Port.initial : Port :=
  { binding := none, gate := .suspended, burst := .idle, buffer := Vector.replicate 64 0#32,
    lookaside := [], link := ⟨none, []⟩ }

/-! ## The memory port (chapter 6) -/

/-- A requester on the memory port: P0–P5 or E (R99). -/
inductive Requester where
  | port (p : PortId)
  | engine
deriving DecidableEq, Repr

/-- HOLDER (R98). -/
inductive Holder where
  | free
  | requester (r : Requester)
  | discarding
deriving DecidableEq, Repr

/-- A transaction issued and not yet answered (R98). `segment` is present for a port's; `data` are
the words of a write as they stand on the bus (log 9). -/
structure Transaction where
  direction : Direction
  start : Word
  words : Nat
  segment : Option PageIndex
  data : List Word
deriving DecidableEq, Repr

/-- The memory port and its arbiter (R98). -/
structure MemoryPort where
  holder : Holder
  transaction : Option Transaction
  pointer : Requester
deriving DecidableEq, Repr

/-! ## The fault queue (chapter 7) -/

/-- A fault record without its SEQ (R111). -/
structure FaultRecord where
  kind : FaultKind
  port : PortId
  context : Option ContextId
  direction : Direction
  address : Word
  length : BurstLength
  pageIndex : Option PageIndex
  storeIndex : Option Nat
  frame : Option FrameNumber
deriving DecidableEq, Repr

/-- A record in the queue, with its SEQ (R111). -/
structure QueuedFault where
  seq : BitVec 16
  record : FaultRecord
deriving DecidableEq, Repr

/-- The fault queue, head first, the stall list, oldest first, and the sequence counter
(R113, R114, R116). -/
structure FaultQueue where
  records : List QueuedFault
  stalled : List (PortId × FaultRecord)
  counter : BitVec 16
deriving DecidableEq, Repr

/-! ## The map transfer engine (chapter 8) -/

/-- KIND of a transfer (R127). -/
inductive TransferKind where
  | load
  | dump
  | fill
deriving DecidableEq, Repr

/-- KIND of a transfer with the parameters that only that kind has (R127). -/
inductive TransferJob where
  | load (listAddress : Word)
  | dump (listAddress : Word) (clearMarks : Bool)
  | fill (value : Fields)
deriving DecidableEq, Repr

/-- The transfer parameters, as latched from the start command (R127). -/
structure Transfer where
  job : TransferJob
  context : ContextId
  firstPage : Nat
  count : Nat
  fence : Bool
deriving DecidableEq, Repr

/-- An entry image of a chunk, with its logical page (R127, R176). -/
structure ChunkImage where
  page : Nat
  word0 : Word
  word1 : Word
deriving DecidableEq, Repr

/-- CHUNK STAGE (R127). -/
inductive ChunkStage where
  | reading
  | requesting
  | inFlight
  | writing
deriving DecidableEq, Repr

/-- Where a running transfer stands: CHUNK, CHUNK STAGE and ABORT PENDING (R127). The stage is absent
in a FILL, and in a LOAD until its first chunk begins (R133). -/
structure Work where
  chunk : List ChunkImage
  stage : Option ChunkStage
  abortPending : Bool
deriving DecidableEq, Repr

/-- ENGINE STATE with what it gives meaning to (R127). -/
inductive EngineState where
  | idle
  | draining (transfer : Transfer)
  | running (transfer : Transfer) (work : Work)
deriving DecidableEq, Repr

/-- STATE of the outcome record (R128). -/
inductive OutcomeState where
  | none
  | inProgress
  | complete
  | aborted
  | memoryError
deriving DecidableEq, Repr

/-- The outcome record (R128); the kind is absent while STATE is NONE (R173). -/
structure OutcomeRecord where
  state : OutcomeState
  kind : Option TransferKind
  context : ContextId
  firstPage : Nat
  count : Nat
  done : Nat
  marksLost : Nat
  failingAddress : Option Word
deriving DecidableEq, Repr

/-- The outcome record after every reset (R149). -/
def OutcomeRecord.initial : OutcomeRecord := ⟨.none, none, 0, 0, 0, 0, 0, none⟩

/-- The transfer engine (R127, R128); `late` is LATE TRANSACTION present. -/
structure Engine where
  state : EngineState
  late : Bool
  outcome : OutcomeRecord
deriving DecidableEq, Repr

/-- The engine after every reset (R149). -/
def Engine.initial : Engine := ⟨.idle, false, OutcomeRecord.initial⟩

/-! ## The watch unit (chapter 9) -/

/-- ACTION of a window (R150). -/
inductive WatchAction where
  | note
  | hold
deriving DecidableEq, Repr

/-- LAST HIT of a window (R155). -/
structure LastHit where
  port : PortId
  address : Word
  direction : Direction
  length : BurstLength
deriving DecidableEq, Repr

/-- A watch window (R150). DIRECTIONS are the two fields `onRead` and `onWrite`; bit n of `portSet`
names Pn. -/
structure Window where
  enabled : Bool
  low : Word
  high : Word
  onRead : Bool
  onWrite : Bool
  portSet : BitVec 6
  action : WatchAction
  hitCount : Nat
  lastHit : Option LastHit
deriving DecidableEq, Repr

/-- A window after a power-on or pin reset (R162). -/
def Window.initial : Window := ⟨false, 0#32, 0#32, true, false, 0#6, .note, 0, none⟩

/-! ## The command unit (chapter 10) -/

/-- OUTCOME of a command (R169). -/
inductive CommandOutcome where
  | none
  | ok
  | unknown
  | badParameter
  | notDefined
  | defined
  | overlap
  | range
  | inUse
  | wrongState
  | portBusy
  | notHeld
  | engineBusy
  | engineIdle
  | notRunning
  | notQuiet
  | queueEmpty
deriving DecidableEq, Repr

/-- RESULT0–RESULT3. -/
abbrev ResultWords := Vector Word 4

/-- PARAM0–PARAM5. -/
abbrev ParamWords := Vector Word 6

/-- STATUS (R164). BUSY is `taken`, before the performance, and `performed`, between the performance
and the completion, which writes the outcome and result words kept here (R165, log 10). -/
inductive CommandStatus where
  | idle
  | taken (code : BitVec 8)
  | performed (code : BitVec 8) (outcome : CommandOutcome) (results : ResultWords)
deriving DecidableEq, Repr

/-- The command unit (R164). -/
structure CommandUnit where
  status : CommandStatus
  lastCode : BitVec 8
  outcome : CommandOutcome
  params : ParamWords
  latched : ParamWords
  results : ResultWords
deriving DecidableEq, Repr

/-- Result words of zeros. -/
def zeroResults : ResultWords := Vector.replicate 4 0#32

/-- The command unit after a power-on or pin reset (R164). -/
def CommandUnit.initial : CommandUnit :=
  ⟨.idle, 0#8, .none, Vector.replicate 6 0#32, Vector.replicate 6 0#32, zeroResults⟩

/-! ## Chip control (chapter 11) -/

/-- The five latched event flags (R177). -/
structure LatchedFlags where
  transferEnd : Bool
  storeError : Bool
  watchNote : Bool
  quietReached : Bool
  overrun : Bool
deriving DecidableEq, Repr

/-- No latched flag set. -/
def LatchedFlags.clear : LatchedFlags := ⟨false, false, false, false, false⟩

/-- The eight enables of EVENT ENABLE (R179). -/
structure EventEnables where
  faults : Bool
  stalled : Bool
  held : Bool
  transferEnd : Bool
  storeError : Bool
  watchNote : Bool
  quietReached : Bool
  overrun : Bool
deriving DecidableEq, Repr

/-- No enable set. -/
def EventEnables.clear : EventEnables := ⟨false, false, false, false, false, false, false, false⟩

/-- The chip mode (R180). -/
inductive Mode where
  | running
  | quiescing
  | quiet
deriving DecidableEq, Repr

/-- The cause of the last reset (R184). -/
inductive ResetCause where
  | powerOn
  | pin
  | soft
deriving DecidableEq, Repr

/-- Chip control (chapter 11). The level flags and HINT are computed from the state (R121, R157,
R179). `resetHeld`: the reset input is held (R184). -/
structure ChipControl where
  flags : LatchedFlags
  enables : EventEnables
  mode : Mode
  frameLimit : Nat
  resetCause : ResetCause
  resetHeld : Bool
deriving DecidableEq, Repr

/-- Chip control after a power-on reset has ended (R185). -/
def ChipControl.initial : ChipControl :=
  ⟨LatchedFlags.clear, EventEnables.clear, .running, 1048576, .powerOn, false⟩

/-! ## The machine -/

/-- The state of the 6160, with the queue of the commands that wait. -/
structure State where
  store : MapStore
  contexts : Vector Context 16
  ports : Vector Port 6
  memory : MemoryPort
  faults : FaultQueue
  engine : Engine
  windows : Vector Window 4
  command : CommandUnit
  chip : ChipControl
  pending : List Instr
deriving DecidableEq, Repr

/-- The machine right after a power-on reset (R185 and the rules it names), no request on any link,
the reset input released, and no command waiting. -/
def State.reset : State where
  store := ⟨[], none⟩
  contexts := Vector.replicate 16 Context.free
  ports := Vector.replicate 6 Port.initial
  memory := ⟨.free, none, .port 0⟩
  faults := ⟨[], [], 0#16⟩
  engine := Engine.initial
  windows := Vector.replicate 4 Window.initial
  command := CommandUnit.initial
  chip := ChipControl.initial
  pending := []

/-- Why the machine stops with a fault. Both are breaches by a bus partner, to which the spec gives
no effect; both are safe: nothing is claimed of the part afterwards (log 4). -/
inductive Fault where
  /-- Raised by REQUEST_PRESENTED on a link that already holds a presented request: "A link holds at
  most one presented request" (R36). Safe. -/
  | linkOccupied
  /-- Raised by an OK answer to a transaction in flight that carries a number of words other than the
  transaction's (R102, R103, R104). Safe. -/
  | answerWords
deriving DecidableEq, Repr

/-- Why a command is refused. -/
inductive Refusal where
  /-- Raised by an arm of `exec` whose row has no meaning yet. Safe: nothing is claimed. -/
  | notModelled (mnemonic : String)
  /-- Raised by a meaning whose operands make no command of its row (`Instr.wellFormed` is false).
  Safe: such a term stands for nothing the part can be sent. -/
  | illFormed
deriving DecidableEq, Repr

end Sys2Proof.Machine
end

