-- ==== Sys2Proof/Machine/Flags.lean ====
section
/-! DEFINITION. What follows the state at every moment: burst state names, READY (R35), the level
flags and HINT (R121, R157, R177, R179), the drain and rest conditions (R131, R181). -/

namespace Sys2Proof.Machine

open Sys2Proof

/-- The ports, P0 to P5. -/
def allPorts : List PortId := [0, 1, 2, 3, 4, 5]

/-- The windows, W0 to W3. -/
def allWindows : List WindowId := [0, 1, 2, 3]

/-! ## Burst states -/

/-- The burst state is IDLE. -/
def Burst.isIdle : Burst → Bool
  | .idle => true
  | .opening _ | .walking _ _ | .fenced _ | .held _ _ _ _ | .stalled _ | .queued _ _
  | .moving _ _ => false

/-- The burst state is HELD. -/
def Burst.isHeld : Burst → Bool
  | .held _ _ _ _ => true
  | .idle | .opening _ | .walking _ _ | .fenced _ | .stalled _ | .queued _ _ | .moving _ _ => false

/-- The burst state is QUEUED: the port requests the memory port (R99). -/
def Burst.isQueued : Burst → Bool
  | .queued _ _ => true
  | .idle | .opening _ | .walking _ _ | .fenced _ | .held _ _ _ _ | .stalled _ | .moving _ _ =>
    false

/-- The burst is in LOOKUP, HELD, QUEUED or MOVING: it holds the drain of its context (R131). -/
def Burst.holdsDrain : Burst → Bool
  | .opening _ | .walking _ _ | .held _ _ _ _ | .queued _ _ | .moving _ _ => true
  | .idle | .fenced _ | .stalled _ => false

/-- The current request, absent in IDLE (R39). -/
def Burst.request : Burst → Option CurrentRequest
  | .idle => none
  | .opening r | .walking r _ | .fenced r | .held r _ _ _ | .stalled r | .queued r _
  | .moving r _ => some r

/-- The hold set, empty unless HELD (R50). -/
def Burst.holdSet : Burst → List WindowId
  | .held _ _ holdSet _ => holdSet
  | .idle | .opening _ | .walking _ _ | .fenced _ | .stalled _ | .queued _ _ | .moving _ _ => []

/-- Burst state codes (R172). -/
def Burst.code : Burst → Nat
  | .idle => 0
  | .opening _ | .walking _ _ => 1
  | .fenced _ => 2
  | .held _ _ _ _ => 3
  | .stalled _ => 4
  | .queued _ _ => 5
  | .moving _ _ => 6

/-! ## READY -/

/-- READY on the link of a port: ADMITTED, IDLE, RUNNING; never while the reset input is held
(R35). -/
def State.ready (s : State) (p : PortId) : Bool :=
  decide (s.ports[p].gate = .admitted) && s.ports[p].burst.isIdle &&
    decide (s.chip.mode = .running) && !s.chip.resetHeld

/-! ## Event flags and HINT -/

/-- FAULTS: the fault queue holds at least one record (R121). -/
def State.faultsFlag (s : State) : Bool := !s.faults.records.isEmpty

/-- STALLED: the stall list holds at least one port (R121). -/
def State.stalledFlag (s : State) : Bool := !s.faults.stalled.isEmpty

/-- HELD: at least one port's burst state is HELD (R157). -/
def State.heldFlag (s : State) : Bool := allPorts.any fun p => s.ports[p].burst.isHeld

/-- HINT is asserted exactly while an event flag is set whose enable is set (R179). -/
def State.hint (s : State) : Bool :=
  (s.faultsFlag && s.chip.enables.faults) || (s.stalledFlag && s.chip.enables.stalled) ||
  (s.heldFlag && s.chip.enables.held) ||
  (s.chip.flags.transferEnd && s.chip.enables.transferEnd) ||
  (s.chip.flags.storeError && s.chip.enables.storeError) ||
  (s.chip.flags.watchNote && s.chip.enables.watchNote) ||
  (s.chip.flags.quietReached && s.chip.enables.quietReached) ||
  (s.chip.flags.overrun && s.chip.enables.overrun)

/-! ## Conditions over ports and engine -/

/-- ENGINE STATE is IDLE. -/
def EngineState.isIdle : EngineState → Bool
  | .idle => true
  | .draining _ | .running _ _ => false

/-- At least one port bound to the context holds the drain (R131). -/
def State.drainHeld (s : State) (c : ContextId) : Bool :=
  allPorts.any fun p => decide (s.ports[p].binding = some c) && s.ports[p].burst.holdsDrain

/-- The rest condition: every port's burst state and ENGINE STATE are IDLE (R181). -/
def State.atRest (s : State) : Bool :=
  (allPorts.all fun p => s.ports[p].burst.isIdle) && s.engine.state.isIdle

/-! ## Updates of chip control -/

/-- The state with the latched flags changed. -/
def State.updateFlags (s : State) (f : LatchedFlags → LatchedFlags) : State :=
  { s with chip := { s.chip with flags := f s.chip.flags } }

/-- The state with the mode changed. -/
def State.setMode (s : State) (mode : Mode) : State :=
  { s with chip := { s.chip with mode } }

/-- The event that latches QUIET_REACHED: in QUIESCING with the rest condition, the mode becomes
QUIET (R182). -/
def State.reachQuiet (s : State) : State :=
  if s.chip.mode = .quiescing ∧ s.atRest = true then
    (s.setMode .quiet).updateFlags fun f => { f with quietReached := true }
  else s

end Sys2Proof.Machine
end

