-- ==== Sys2Proof/Machine/Operands.lean ====
section
/-! DEFINITION. The bits of words: helpers to place and read bit fields, the parameter words of the
commands (R174), and the image of a map entry (R176). -/

namespace Sys2Proof.Machine

open Sys2Proof

/-! ## Bit fields -/

/-- The number `n` placed with its least significant bit at bit `lo`. -/
def place (lo n : Nat) : Word := BitVec.ofNat 32 n <<< lo

/-- A yes-or-no field placed at bit `lo`: 1 when set. -/
def placeBit (lo : Nat) (b : Bool) : Word := if b then place lo 1 else 0#32

/-- The words of a list joined bit by bit: their fields do not overlap. -/
def joinFields (fields : List Word) : Word := fields.foldr (· ||| ·) 0#32

/-- Bit `i` of a word. -/
def bitOf (w : Word) (i : Nat) : Bool := w.getLsbD i

/-! ## Parameter words (R174): a value is the whole word, and range checks are made on all of it -/

/-- A port number, 0–5. -/
def portParam (w : Word) : Option PortId := if h : w.toNat < 6 then some ⟨w.toNat, h⟩ else none

/-- A context number, 0–15. -/
def contextParam (w : Word) : Option ContextId :=
  if h : w.toNat < 16 then some ⟨w.toNat, h⟩ else none

/-- A window number, 0–3. -/
def windowParam (w : Word) : Option WindowId := if h : w.toNat < 4 then some ⟨w.toNat, h⟩ else none

/-- A yes-or-no parameter: 0 for no, 1 for yes. -/
def yesNoParam (w : Word) : Option Bool :=
  if w = 0#32 then some false else if w = 1#32 then some true else none

/-- A FRAME, 0–1,048,575. -/
def frameParam (w : Word) : Option FrameNumber :=
  if w.toNat < 1048576 then some (w.setWidth 20) else none

/-- The ACTION word of SET WINDOW: 0 NOTE, 1 HOLD. -/
def actionParam (w : Word) : Option WatchAction :=
  if w = 0#32 then some .note else if w = 1#32 then some .hold else none

/-- The entry flags word, with a FRAME: VALID in bit 24, READ 25, WRITE 26, TOUCHED 27, DIRTY 28. -/
def entryFields (frame : FrameNumber) (flags : Word) : Fields :=
  { frame, valid := bitOf flags 24, read := bitOf flags 25, write := bitOf flags 26,
    touched := bitOf flags 27, dirty := bitOf flags 28 }

/-! ## The entry image (R176) -/

/-- The six fields that a LOAD takes from word 0 of an image: FRAME from bits 0–19, the flags from
bits 24–28; the other bits are not used (R134). -/
def imageFields (word0 : Word) : Fields := entryFields (word0.setWidth 20) word0

/-- Word 0 of an image: the fields, and bit 31 set when the check read was BAD (R176). -/
def imageWord0 (e : MapEntry) : Word :=
  joinFields [place 0 e.fields.frame.toNat, placeBit 24 e.fields.valid, placeBit 25 e.fields.read,
    placeBit 26 e.fields.write, placeBit 27 e.fields.touched, placeBit 28 e.fields.dirty,
    placeBit 31 (e.check == .bad)]

/-- Word 1 of an image: the logical page in bits 0–10, the context number in bits 16–19 (R176). -/
def imageWord1 (page : Nat) (context : ContextId) : Word :=
  joinFields [place 0 page, place 16 context.val]

/-- The images in the words of a chunk read, two words each, for pages from `page` on (R133). -/
def imagesOfWords : Nat → List Word → List ChunkImage
  | page, w0 :: w1 :: rest => ⟨page, w0, w1⟩ :: imagesOfWords (page + 1) rest
  | _, _ => []

/-- The words of a chunk's images, in run order (R137). -/
def wordsOfImages (images : List ChunkImage) : List Word :=
  images.flatMap fun image => [image.word0, image.word1]

/-! ## The burst buffer (R38, R102) -/

/-- The buffer with the words of a list put in from position `at` on. -/
def writeWords (buffer : Vector Word 64) : Nat → List Word → Vector Word 64
  | _, [] => buffer
  | pos, w :: rest => writeWords (buffer.setIfInBounds pos w) (pos + 1) rest

/-- The `count` words of the buffer from position `pos` on. -/
def readWords (buffer : Vector Word 64) (pos count : Nat) : List Word :=
  (buffer.toList.drop pos).take count

end Sys2Proof.Machine
end

