-- ==== Sys2Proof/Machine/Ops.lean ====
section
/-! DEFINITION. The shared operations: store accesses with their effect on the lookaside buffers,
taking and answering at a port, the append-or-stall rule, the arbiter's grant, and the start and end
of a transfer. Each is the act of one rule; the meanings of the commands are built from them. -/

namespace Sys2Proof.Machine

open Sys2Proof

/-! ## Updates of one port, one context -/

/-- The state with one port changed. -/
def State.updatePort (s : State) (p : PortId) (f : Port → Port) : State :=
  { s with ports := s.ports.set p (f s.ports[p]) }

/-- The state with the burst of one port changed. -/
def State.setBurst (s : State) (p : PortId) (burst : Burst) : State :=
  s.updatePort p fun port => { port with burst }

/-- The state with one context record changed. -/
def State.updateContext (s : State) (c : ContextId) (f : Context → Context) : State :=
  { s with contexts := s.contexts.set c (f s.contexts[c]) }

/-! ## The map store as a list of entries (log 8) -/

/-- The entry listed under an index, or the power-on entry. -/
def lookupEntry : List (Nat × MapEntry) → Nat → MapEntry
  | [], _ => MapEntry.powerOn
  | (j, e) :: rest, i => if j = i then e else lookupEntry rest i

/-- The list with an entry put under an index, in rising order. -/
def insertEntry : List (Nat × MapEntry) → Nat → MapEntry → List (Nat × MapEntry)
  | [], i, e => [(i, e)]
  | (j, d) :: rest, i, e =>
    if i < j then (i, e) :: (j, d) :: rest
    else if i = j then (i, e) :: rest
    else (j, d) :: insertEntry rest i e

/-- The map store entry at an index. -/
def MapStore.entry (m : MapStore) (i : Nat) : MapEntry := lookupEntry m.entries i

/-- The store with the entry at an index replaced. An entry equal to the power-on entry is not
listed; indices at or above 2048 name no entry. -/
def MapStore.put (m : MapStore) (i : Nat) (e : MapEntry) : MapStore :=
  if i < 2048 then
    { m with
      entries := if e = MapEntry.powerOn then m.entries.filter fun c => c.1 ≠ i
        else insertEntry m.entries i e }
  else m

/-- The canonical form: rising indices below 2048, and no entry equal to the power-on entry. -/
abbrev MapStore.wf (m : MapStore) : Prop :=
  m.entries.Pairwise (fun a b => a.1 < b.1) ∧
    ∀ c ∈ m.entries, c.1 < 2048 ∧ c.2 ≠ MapEntry.powerOn

/-! ## Copies in the lookaside buffers -/

/-- The port without its copies of a store entry (R89). -/
def Port.dropCopies (port : Port) (i : Nat) : Port :=
  { port with lookaside := port.lookaside.filter fun c => c.storeIndex ≠ i }

/-- The copies of a store entry removed from every port but the excepted one (R89). -/
def State.removeCopies (s : State) (i : Nat) (except : Option PortId) : State :=
  { s with
    ports := Vector.ofFn fun q : PortId =>
      if except = some q then s.ports[q] else s.ports[q].dropCopies i }

/-- The placement of a copy at the front: an older copy of the same entry is taken out, and the last
copy of a full list is dropped (R87, R88). -/
def placeCopy (list : List Copy) (c : Copy) : List Copy :=
  (c :: list.filter fun d => d.storeIndex ≠ c.storeIndex).take 8

/-- The copy of a logical page moved to the front (R86). -/
def moveToFront (list : List Copy) (c : Copy) : List Copy :=
  c :: list.filter fun d => d.page ≠ c.page

/-- The ports that hold a copy of a store entry (R17, R96). -/
def State.copyHolders (s : State) (i : Nat) : List PortId :=
  allPorts.filter fun p => s.ports[p].lookaside.any fun c => c.storeIndex == i

/-! ## Store accesses (R3 to R8, R11) -/

/-- The discovery of a BAD check: STORE_ERROR is set and the index recorded (R11). -/
def State.discoverBad (s : State) (i : Nat) : State :=
  { s.updateFlags (fun f => { f with storeError := true }) with
    store := { s.store with errorIndex := some i } }

/-- A plain read: it changes nothing, but for what R11 requires of a BAD check (R4). The entry read
is `s.store.entry i`. -/
def State.plainRead (s : State) (i : Nat) : State :=
  if (s.store.entry i).check = .bad then s.discoverBad i else s

/-- A write: the six fields and the check are replaced and every copy is removed; the old check is
not read (R7). -/
def State.storeWrite (s : State) (i : Nat) (fields : Fields) (check : Check) : State :=
  State.removeCopies { s with store := s.store.put i ⟨fields, check⟩ } i none

/-- A read-and-clear (R8). The entry read is `s.store.entry i`, before the clearing. -/
def State.readAndClear (s : State) (i : Nat) : State :=
  if (s.store.entry i).check = .bad then s.discoverBad i
  else if (s.store.entry i).fields.touched || (s.store.entry i).fields.dirty then
    s.storeWrite i { (s.store.entry i).fields with touched := false, dirty := false } .good
  else s

/-- The fields with the marks that a burst of the direction requires (R5). -/
def Fields.marked (f : Fields) (direction : Direction) : Fields :=
  { f with touched := true, dirty := f.dirty || decide (direction = .write) }

/-- The fields carry every mark that a burst of the direction requires (R65). -/
def Fields.carriesMarks (f : Fields) (direction : Direction) : Bool :=
  f.touched && (decide (direction = .read) || f.dirty)

/-- The four tests of a page's entry, in order; the fault of the first that fails (R5, R67). -/
def pageFault (e : MapEntry) (direction : Direction) (limit : Nat) : Option FaultKind :=
  if e.check = .bad then some .parity
  else if e.fields.valid = false then some .invalid
  else if direction = .read ∧ e.fields.read = false then some .noRead
  else if direction = .write ∧ e.fields.write = false then some .noWrite
  else if limit ≤ e.fields.frame.toNat then some .limit
  else none

/-- The port's copy of an entry placed at the front of its list (R87). -/
def State.placePortCopy (s : State) (p : PortId) (c : Copy) : State :=
  s.updatePort p fun port => { port with lookaside := placeCopy port.lookaside c }

/-- A read-and-mark for a port's burst, with its effect on the copies (R5, R6, R87). The entry as
read is `s.store.entry i`. -/
def State.readAndMark (s : State) (p : PortId) (i page : Nat) (direction : Direction) : State :=
  let e := s.store.entry i
  match pageFault e direction s.chip.frameLimit with
  | none =>
    let marked := e.fields.marked direction
    if marked = e.fields then s.placePortCopy p ⟨page, i, e.fields⟩
    else
      (State.removeCopies { s with store := s.store.put i ⟨marked, .good⟩ } i (some p)).placePortCopy
        p ⟨page, i, marked⟩
  | some .parity => s.discoverBad i
  | some .invalid => s
  | some _ => s.placePortCopy p ⟨page, i, e.fields⟩

/-! ## Taking a request and answering a burst (R36, R38, R40) -/

/-- The take: the request becomes the current request, the burst state goes to LOOKUP with PHASE
OPENING, and the WRITE DATA of a WRITE of 1–64 words goes into the buffer (R38, R54). -/
def Port.take (port : Port) (r : Request) : Port :=
  { port with
    burst := .opening ⟨r.direction, r.address, r.length⟩
    buffer := if r.direction = .write ∧ r.length.toNat ≤ 64 then writeWords port.buffer 0 r.data
      else port.buffer
    link := { port.link with waiting := none } }

/-- The take of a waiting request, if READY holds (R36). -/
def State.tryTake (s : State) (p : PortId) : State :=
  match s.ports[p].link.waiting with
  | some r => if s.ready p then s.updatePort p fun port => port.take r else s
  | none => s

/-- The port with an answer sent on its link and its burst ended (R40). -/
def Port.answer (port : Port) (a : LinkAnswer) : Port :=
  { port with burst := .idle, link := { port.link with answers := port.link.answers ++ [a] } }

/-- An answer to a burst: sent, the burst state IDLE, and READY re-evaluated in the same event
(R40). -/
def State.answer (s : State) (p : PortId) (a : LinkAnswer) : State :=
  (s.updatePort p fun port => port.answer a).tryTake p

/-! ## The transfer's drain (R131) -/

/-- TransferKind of a job. -/
def TransferJob.kind : TransferJob → TransferKind
  | .load _ => .load
  | .dump _ _ => .dump
  | .fill _ => .fill

/-- Where a transfer stands when it enters RUNNING: a DUMP in READING with an empty CHUNK (R137), a
LOAD and a FILL with no chunk begun (R133, R136). -/
def TransferJob.initialWork : TransferJob → Work
  | .load _ => ⟨[], none, false⟩
  | .dump _ _ => ⟨[], some .reading, false⟩
  | .fill _ => ⟨[], none, false⟩

/-- The state with ENGINE STATE changed. -/
def State.setEngineState (s : State) (e : EngineState) : State :=
  { s with engine := { s.engine with state := e } }

/-- The state with the outcome record changed. -/
def State.updateOutcome (s : State) (f : OutcomeRecord → OutcomeRecord) : State :=
  { s with engine := { s.engine with outcome := f s.engine.outcome } }

/-- The end of the drain: DRAINING goes to RUNNING when no port bound to the context is in LOOKUP,
HELD, QUEUED or MOVING (R131). -/
def State.endDrain (s : State) : State :=
  match s.engine.state with
  | .draining t =>
    if s.drainHeld t.context then s else s.setEngineState (.running t t.job.initialWork)
  | .idle | .running _ _ => s

/-- What an event that takes a burst out of a state may complete: the drain (R131), then the rest
condition (R182). -/
def State.settle (s : State) : State := s.endDrain.reachQuiet

/-! ## The fault queue (R115 to R119) -/

/-- A fault record of a port's burst (R78, R107, R159). -/
def faultRecord (p : PortId) (context : Option ContextId) (r : CurrentRequest) (kind : FaultKind)
    (pageIndex : Option PageIndex) (storeIndex : Option Nat) (frame : Option FrameNumber) :
    FaultRecord :=
  ⟨kind, p, context, r.direction, r.address, r.length, pageIndex, storeIndex, frame⟩

/-- The segment of a burst with a segment number; segment 1 when there is no second. -/
def Segments.segment (segs : Segments) : PageIndex → Segment
  | .one => segs.first
  | .two => segs.second.getD segs.first

/-- The record of a fault decided after translation, from the segment concerned: WATCH (R159) and
MEMORY (R107). -/
def segmentRecord (p : PortId) (context : Option ContextId) (r : CurrentRequest) (kind : FaultKind)
    (seg : Segment) : FaultRecord :=
  faultRecord p context r kind (some seg.pageIndex) (some seg.storeIndex) (some seg.frame)

/-- An append at the tail with the next SEQ (R114). -/
def FaultQueue.append (q : FaultQueue) (record : FaultRecord) : FaultQueue :=
  { q with records := q.records ++ [⟨q.counter, record⟩], counter := q.counter + 1#16 }

/-- An append with the REFUSED answer and the return to IDLE, one event (R115, R119). -/
def State.appendAndAnswer (s : State) (p : PortId) (record : FaultRecord) : State :=
  State.answer { s with faults := s.faults.append record } p (.refused (.fault record.kind))

/-- The stall: the port goes to STALLED and joins the tail of the stall list with its record
(R115, R116). -/
def State.stall (s : State) (p : PortId) (r : CurrentRequest) (record : FaultRecord) : State :=
  State.setBurst
    { s with faults := { s.faults with stalled := s.faults.stalled ++ [(p, record)] } } p (.stalled r)

/-- A fault decided for a port's burst: the append-or-stall rule (R43, R115), with what the event
may complete. -/
def State.decideFault (s : State) (p : PortId) (r : CurrentRequest) (record : FaultRecord) : State :=
  (if s.faults.records.length < 16 then s.appendAndAnswer p record
   else s.stall p r record).settle

/-! ## The arbiter (R99 to R103) -/

/-- The fixed cyclic order P0, P1, P2, P3, P4, P5, E (R100). -/
def Requester.order : List Requester :=
  [.port 0, .port 1, .port 2, .port 3, .port 4, .port 5, .engine]

/-- The requesters in cyclic order, starting at one of them. -/
def Requester.rotation (r : Requester) : List Requester :=
  (Requester.order.dropWhile fun q => q ≠ r) ++ (Requester.order.takeWhile fun q => q ≠ r)

/-- The requester that follows one in the cyclic order. -/
def Requester.next : Requester → Requester
  | .port p => if h : p.val + 1 < 6 then .port ⟨p.val + 1, h⟩ else .engine
  | .engine => .port 0

/-- The engine has a chunk transaction ready (R99). -/
def EngineState.isRequesting : EngineState → Bool
  | .running _ w => decide (w.stage = some .requesting)
  | .idle | .draining _ => false

/-- A requester requests the memory port (R99). -/
def State.requests (s : State) : Requester → Bool
  | .port p => s.ports[p].burst.isQueued
  | .engine => s.engine.state.isRequesting

/-- A port's transaction for a segment: for a WRITE, the words of the buffer from a position on
(R102). -/
def segmentTransaction (direction : Direction) (buffer : Vector Word 64) (position : Nat)
    (which : PageIndex) (seg : Segment) : Transaction :=
  { direction, start := seg.start, words := seg.words, segment := some which,
    data := if direction = .write then readWords buffer position seg.words else [] }

/-- The number of entries in the next chunk: min(8, COUNT − DONE) (R133, R137). -/
def chunkSize (t : Transfer) (done : Nat) : Nat := min 8 (t.count - done)

/-- The start address of a chunk: the list address plus 8 × DONE (R133, R137). -/
def chunkAddress (listAddress : Word) (done : Nat) : Word := listAddress + BitVec.ofNat 32 (8 * done)

/-- The engine's chunk transaction (R103, R133, R137); a FILL has none. -/
def chunkTransaction (t : Transfer) (w : Work) (done : Nat) : Option Transaction :=
  match t.job with
  | .load listAddress =>
    some ⟨.read, chunkAddress listAddress done, 2 * chunkSize t done, none, []⟩
  | .dump listAddress _ =>
    some ⟨.write, chunkAddress listAddress done, 2 * w.chunk.length, none, wordsOfImages w.chunk⟩
  | .fill _ => none

/-- The memory port with a requester's first transaction issued: HOLDER the winner, POINTER past it
(R100). -/
def MemoryPort.issue (m : MemoryPort) (r : Requester) (t : Option Transaction) : MemoryPort :=
  { m with holder := .requester r, transaction := t, pointer := r.next }

/-- The grant to a requester: the first transaction issued, a port's burst QUEUED to MOVING
(R102), the engine's chunk IN FLIGHT (R103). -/
def State.grantTo (s : State) : Requester → State
  | .port p =>
    match s.ports[p].burst with
    | .queued r segs =>
      State.setBurst
        { s with
          memory := s.memory.issue (.port p)
            (some (segmentTransaction r.direction s.ports[p].buffer 0 .one segs.first)) }
        p (.moving r segs)
    | .idle | .opening _ | .walking _ _ | .fenced _ | .held _ _ _ _ | .stalled _ | .moving _ _ => s
  | .engine =>
    match s.engine.state with
    | .running t w =>
      State.setEngineState
        { s with
          memory := s.memory.issue .engine (chunkTransaction t w s.engine.outcome.done) }
        (.running t { w with stage := some .inFlight })
    | .idle | .draining _ => s

/-- The arbiter: when HOLDER is FREE, the grant goes to the first requesting requester from POINTER
on; with none, nothing changes (R100). -/
def State.grant (s : State) : State :=
  if s.memory.holder = .free then
    match s.memory.pointer.rotation.find? fun r => s.requests r with
    | some r => s.grantTo r
    | none => s
  else s

/-- The memory port after the answer to its holder's last transaction: FREE, nothing outstanding
(R102, R108). -/
def State.freeMemory (s : State) : State :=
  { s with memory := { s.memory with holder := .free, transaction := none } }

/-! ## Transfers (R130, R141) -/

/-- The engine asks for the memory port: the chunk's stage becomes REQUESTING (R133, R137). -/
def State.requestChunk (s : State) (t : Transfer) (w : Work) : State :=
  (s.setEngineState (.running t { w with stage := some .requesting })).grant

/-- The transfer in progress. -/
def EngineState.transfer : EngineState → Option Transfer
  | .idle => none
  | .draining t | .running t _ => some t

/-- The end of a transfer: ENGINE STATE IDLE, the mark NONE, the outcome STATE set, TRANSFER_END
latched; in QUIESCING it may reach QUIET (R141, R182). -/
def State.endTransfer (s : State) (result : OutcomeState) : State :=
  match s.engine.state.transfer with
  | none => s
  | some t =>
    ((((s.setEngineState .idle).updateContext t.context fun c => { c with mark := .none }).updateOutcome
      fun o => { o with state := result }).updateFlags
        fun f => { f with transferEnd := true }).reachQuiet

/-- The acts of a start command taken with OK: the parameters latched, the mark set, the outcome
record IN_PROGRESS, ENGINE STATE RUNNING, or DRAINING until the context has drained (R130). -/
def State.startTransfer (s : State) (t : Transfer) : State :=
  let marked := s.updateContext t.context fun c =>
    { c with mark := if t.fence then .fenced else .plain }
  let recorded := marked.updateOutcome fun _ =>
    { state := .inProgress, kind := some t.job.kind, context := t.context, firstPage := t.firstPage,
      count := t.count, done := 0, marksLost := 0, failingAddress := none }
  if t.fence then (recorded.setEngineState (.draining t)).endDrain
  else recorded.setEngineState (.running t t.job.initialWork)

/-- The store index of the run entry at a position (R129). -/
def State.runIndex (s : State) (t : Transfer) (position : Nat) : Nat :=
  s.contexts[t.context].base + (t.firstPage + position)

/-- DONE raised (R134, R136, R138). -/
def State.raiseDone (s : State) (n : Nat) : State :=
  s.updateOutcome fun o => { o with done := o.done + n }

/-! ## Host commands (R165, R167) -/

/-- What the performance of a host command leaves: the state of the other blocks, the outcome and the
result words. -/
structure Performed where
  state : State
  outcome : CommandOutcome
  results : ResultWords

/-- A command performed with OK and result words of zeros. -/
def performedOk (s : State) : Performed := ⟨s, .ok, zeroResults⟩

/-- A command that fails a check: nothing changed, result words of zeros (R169). -/
def performedFail (s : State) (outcome : CommandOutcome) : Performed := ⟨s, outcome, zeroResults⟩

/-- STATUS changed. -/
def State.setStatus (s : State) (status : CommandStatus) : State :=
  { s with command := { s.command with status } }

/-- A write to COMMAND while STATUS is BUSY: discarded, OVERRUN latched (R167). -/
def State.latchOverrun (s : State) : State :=
  s.updateFlags fun f => { f with overrun := true }

/-- The take: PARAM0–PARAM5 copied into the latched parameters, STATUS BUSY (R165). A write to
COMMAND is discarded while BUSY (R167) and ignored while the reset input is held (R163). -/
def State.takeCommand (s : State) (busy : CommandStatus) : State :=
  if s.chip.resetHeld then s
  else if s.command.status = .idle then
    { s with command := { s.command with status := busy, latched := s.command.params } }
  else s.latchOverrun

/-- The performance of the command taken, at its owner, on the latched parameters; nothing when the
command taken is another (log 2). -/
def State.performCommand (s : State) (code : BitVec 8) (perform : ParamWords → State → Performed) :
    State :=
  if s.command.status = .taken code then
    let done := perform s.command.latched s
    done.state.setStatus (.performed code done.outcome done.results)
  else s

/-- The events of a host command (R165): its take, its performance, or the take with the performance
following at once (log 1). -/
def State.hostCommand (s : State) (code : BitVec 8) (perform : ParamWords → State → Performed) :
    CommandEvent → State
  | .take => s.takeCommand (.taken code)
  | .perform => s.performCommand code perform
  | .whole =>
    if s.command.status = .idle then (s.takeCommand (.taken code)).performCommand code perform
    else s.takeCommand (.taken code)

end Sys2Proof.Machine
end

