-- ==== Sys2Proof/Machine/Formats.lean ====
section
/-! DEFINITION. What the host reads: the codes and layouts of the window words and of the result
words (R169, R171, R172, R173, R175). A read changes nothing and has no row in the command table: it
is a function of the state (R163, log 5). -/

namespace Sys2Proof.Machine

open Sys2Proof

/-! ## Codes -/

/-- Outcome codes (R169). -/
def CommandOutcome.code : CommandOutcome → Nat
  | .none => 0
  | .ok => 1
  | .unknown => 2
  | .badParameter => 3
  | .notDefined => 4
  | .defined => 5
  | .overlap => 6
  | .range => 7
  | .inUse => 8
  | .wrongState => 9
  | .portBusy => 10
  | .notHeld => 11
  | .engineBusy => 12
  | .engineIdle => 13
  | .notRunning => 14
  | .notQuiet => 15
  | .queueEmpty => 16

/-- KIND codes (R172). -/
def FaultKind.code : FaultKind → Nat
  | .unbound => 1
  | .misaligned => 2
  | .length => 3
  | .readonly => 4
  | .bound => 5
  | .parity => 6
  | .invalid => 7
  | .noRead => 8
  | .noWrite => 9
  | .limit => 10
  | .watch => 11
  | .memory => 12

/-- Mode codes (R171). -/
def Mode.code : Mode → Nat
  | .running => 0
  | .quiescing => 1
  | .quiet => 2

/-- Reset cause codes (R171). -/
def ResetCause.code : ResetCause → Nat
  | .powerOn => 1
  | .pin => 2
  | .soft => 3

/-- Outcome record STATE codes (R173). -/
def OutcomeState.code : OutcomeState → Nat
  | .none => 0
  | .inProgress => 1
  | .complete => 2
  | .aborted => 3
  | .memoryError => 4

/-- Transfer KIND codes (R173). -/
def TransferKind.code : TransferKind → Nat
  | .load => 1
  | .dump => 2
  | .fill => 3

/-- ENGINE STATE codes (R173). -/
def EngineState.code : EngineState → Nat
  | .idle => 0
  | .draining _ => 1
  | .running _ _ => 2

/-- TRANSFER MARK codes (R175). -/
def TransferMark.code : TransferMark → Nat
  | .none => 0
  | .plain => 1
  | .fenced => 2

/-- PAGE INDEX as a number. -/
def PageIndex.number : PageIndex → Nat
  | .one => 1
  | .two => 2

/-- The DIRECTION bit: 1 WRITE. -/
def directionBit : Direction → Bool
  | .read => false
  | .write => true

/-! ## Result words (R175) -/

/-- A context record in the result words of READ CONTEXT. -/
def contextWords (c : Context) : ResultWords :=
  #v[joinFields [placeBit 0 c.defined, placeBit 1 c.readOnly, place 4 c.bindCount,
      place 8 c.mark.code],
    place 0 c.base, place 0 c.pages, 0#32]

/-- A set of ports as bits, bit n for Pn. -/
def portBits (ports : List PortId) : Word := joinFields (ports.map fun p => place p.val 1)

/-- The result words of PROBE: store index, the entry as image word 0, the copy holders. -/
def probeWords (index : Nat) (e : MapEntry) (holders : List PortId) : ResultWords :=
  #v[place 0 index, imageWord0 e, portBits holders, 0#32]

/-- The bits of READ PORT that show the current request; zero when there is none. -/
def requestBits : Option CurrentRequest → Word
  | some r => joinFields [place 21 1, placeBit 22 (directionBit r.direction), place 24 r.length.toNat]
  | none => 0#32

/-- The result words of READ PORT. -/
def portWords (port : Port) : ResultWords :=
  #v[joinFields [place 0 port.burst.code, placeBit 4 (decide (port.gate = .admitted)),
      placeBit 5 port.binding.isSome,
      (match port.binding with
        | some c => place 8 c.val
        | none => 0#32),
      joinFields (port.burst.holdSet.map fun w => place (12 + w.val) 1),
      place 16 port.lookaside.length, placeBit 20 port.link.waiting.isSome,
      requestBits port.burst.request],
    (match port.burst.request with
      | some r => r.address
      | none => 0#32),
    0#32, 0#32]

/-- A fault record in the layout of FAULT HEAD words 0–3 (R172). -/
def faultWords (q : QueuedFault) : ResultWords :=
  #v[joinFields [place 0 q.seq.toNat, place 16 q.record.kind.code, place 20 q.record.port.val,
      placeBit 23 (directionBit q.record.direction),
      (match q.record.context with
        | some c => joinFields [place 24 c.val, place 28 1]
        | none => 0#32),
      (match q.record.pageIndex with
        | some i => place 29 i.number
        | none => 0#32)],
    q.record.address,
    joinFields [place 0 q.record.length.toNat,
      (match q.record.storeIndex with
        | some i => joinFields [place 16 i, place 31 1]
        | none => 0#32)],
    (match q.record.frame with
      | some f => joinFields [place 0 f.toNat, place 31 1]
      | none => 0#32)]

/-- A word address with its bits 0–1 taken as zero. -/
def alignedBits (a : Word) : Word := a &&& 0xFFFFFFFC#32

/-- The result words of READ WINDOW. -/
def windowWords (w : Window) : ResultWords :=
  #v[joinFields [alignedBits w.low, placeBit 0 w.enabled, placeBit 1 (decide (w.action = .hold))],
    joinFields [alignedBits w.high, placeBit 0 w.onRead, placeBit 1 w.onWrite],
    joinFields [place 0 w.portSet.toNat, place 16 w.hitCount,
      (match w.lastHit with
        | some h => joinFields [place 6 h.port.val, place 9 h.length.toNat]
        | none => 0#32)],
    (match w.lastHit with
      | some h => joinFields [alignedBits h.address, place 0 1, placeBit 1 (directionBit h.direction)]
      | none => 0#32)]

/-! ## Window words (R171, R172, R173) -/

/-- MODE (R171). -/
def modeWord (chip : ChipControl) : Word :=
  joinFields [place 0 chip.mode.code, place 8 chip.resetCause.code]

/-- COMMAND on read (R171). -/
def commandWord (c : CommandUnit) : Word :=
  joinFields [place 0 c.lastCode.toNat, place 8 c.outcome.code,
    placeBit 31 (decide (c.status ≠ .idle))]

/-- EVENTS (R171). -/
def eventsWord (s : State) : Word :=
  joinFields [placeBit 0 s.faultsFlag, placeBit 1 s.stalledFlag, placeBit 2 s.heldFlag,
    placeBit 8 s.chip.flags.transferEnd, placeBit 9 s.chip.flags.storeError,
    placeBit 10 s.chip.flags.watchNote, placeBit 11 s.chip.flags.quietReached,
    placeBit 12 s.chip.flags.overrun]

/-- EVENT ENABLE on read (R171). -/
def enablesWord (e : EventEnables) : Word :=
  joinFields [placeBit 0 e.faults, placeBit 1 e.stalled, placeBit 2 e.held,
    placeBit 8 e.transferEnd, placeBit 9 e.storeError, placeBit 10 e.watchNote,
    placeBit 11 e.quietReached, placeBit 12 e.overrun]

/-- STORE ERROR INDEX (R171). -/
def storeErrorWord : Option Nat → Word
  | some i => joinFields [place 0 i, place 31 1]
  | none => 0#32

/-- FAULT DEPTH (R172). -/
def faultDepthWord (q : FaultQueue) : Word :=
  joinFields [place 0 q.records.length, place 8 q.stalled.length]

/-- FAULT HEAD; zeros while the queue is empty (R122, R172). -/
def faultHeadWords (q : FaultQueue) : ResultWords :=
  match q.records with
  | head :: _ => faultWords head
  | [] => zeroResults

/-- STALL ORDER: a port number in each place, Fh in the unused ones (R172). -/
def stallOrderWord (q : FaultQueue) : Word :=
  joinFields ([0, 1, 2, 3, 4, 5].map fun k : Nat =>
    match q.stalled[k]? with
    | some (p, _) => place (4 * k) p.val
    | none => place (4 * k) 15)

/-- The fields of one port in PORT SUMMARY (R172). -/
def portSummaryBits (p : PortId) (port : Port) : Word :=
  joinFields [place (5 * p.val) port.burst.code,
    placeBit (5 * p.val + 3) (decide (port.gate = .admitted)),
    placeBit (5 * p.val + 4) port.binding.isSome]

/-- PORT SUMMARY (R51, R172). -/
def portSummaryWord (s : State) : Word :=
  joinFields (allPorts.map fun p => portSummaryBits p s.ports[p])

/-- TRANSFER OUTCOME, words 0–2 (R173). -/
def transferOutcomeWord (e : Engine) : Nat → Word
  | 0 => joinFields [place 0 e.outcome.state.code,
      (match e.outcome.kind with
        | some k => place 4 k.code
        | none => 0#32),
      place 6 e.state.code, place 8 e.outcome.context.val, place 12 e.outcome.marksLost,
      place 16 e.outcome.firstPage, placeBit 31 e.outcome.failingAddress.isSome]
  | 1 => joinFields [place 0 e.outcome.count, place 16 e.outcome.done]
  | _ => e.outcome.failingAddress.getD 0#32

/-- What a read of a window word returns; zero while the reset input is held (R163). The number is
the offset divided by 4. -/
def State.hostRead (s : State) (number : Fin 32) : Word :=
  if s.chip.resetHeld then 0#32
  else match number.val with
    | 0 => Config.ident
    | 1 => modeWord s.chip
    | 2 => commandWord s.command
    | 3 => s.command.params[0]
    | 4 => s.command.params[1]
    | 5 => s.command.params[2]
    | 6 => s.command.params[3]
    | 7 => s.command.params[4]
    | 8 => s.command.params[5]
    | 9 => s.command.results[0]
    | 10 => s.command.results[1]
    | 11 => s.command.results[2]
    | 12 => s.command.results[3]
    | 13 => eventsWord s
    | 14 => enablesWord s.chip.enables
    | 15 => storeErrorWord s.store.errorIndex
    | 16 => faultDepthWord s.faults
    | 17 => (faultHeadWords s.faults)[0]
    | 18 => (faultHeadWords s.faults)[1]
    | 19 => (faultHeadWords s.faults)[2]
    | 20 => (faultHeadWords s.faults)[3]
    | 21 => transferOutcomeWord s.engine 0
    | 22 => transferOutcomeWord s.engine 1
    | 23 => transferOutcomeWord s.engine 2
    | 24 => portSummaryWord s
    | 25 => stallOrderWord s.faults
    | _ => 0#32

end Sys2Proof.Machine
end

