-- ==== Sys2Proof/Machine/ChipCommands.lean ====
section
/-! DEFINITION. QUIESCE, WAKE and SET FRAME LIMIT (sections 11.2 and 11.3). -/

namespace Sys2Proof.Machine

open Sys2Proof

/-- QUIESCE: WRONG_STATE but in RUNNING; there QUIESCING, and QUIET at once when the rest condition
holds (R181). -/
def performQuiesce (_params : ParamWords) (s : State) : Performed :=
  if s.chip.mode = .running then performedOk (s.setMode .quiescing).reachQuiet
  else performedFail s .wrongState

/-- QUIESCE. -/
def execQuiesce (event : CommandEvent) (s : State) : Host.Outcome State Fault Refusal :=
  .next (s.hostCommand 0x70#8 performQuiesce event)

/-- WAKE: WRONG_STATE in RUNNING; otherwise RUNNING, and every port that is then READY takes the
request waiting on its link (R182, R180, R36). -/
def performWake (_params : ParamWords) (s : State) : Performed :=
  if s.chip.mode = .running then performedFail s .wrongState
  else performedOk (allPorts.foldl (fun t p => t.tryTake p) (s.setMode .running))

/-- WAKE. -/
def execWake (event : CommandEvent) (s : State) : Host.Outcome State Fault Refusal :=
  .next (s.hostCommand 0x71#8 performWake event)

/-- The result words of SET FRAME LIMIT, whatever its outcome: the limit in force (R175, R183). -/
def limitWords (limit : Nat) : ResultWords := #v[place 0 limit, 0#32, 0#32, 0#32]

/-- SET FRAME LIMIT: the two checks of R183 in order, then the limit set. -/
def performSetFrameLimit (p : ParamWords) (s : State) : Performed :=
  if s.chip.mode ≠ .quiet ∨ s.memory.holder ≠ .free then
    ⟨s, .notQuiet, limitWords s.chip.frameLimit⟩
  else if p[0].toNat = 0 ∨ 1048576 < p[0].toNat then
    ⟨s, .badParameter, limitWords s.chip.frameLimit⟩
  else
    ⟨{ s with chip := { s.chip with frameLimit := p[0].toNat } }, .ok, limitWords p[0].toNat⟩

/-- SET_FRAME_LIMIT. -/
def execSetFrameLimit (event : CommandEvent) (s : State) : Host.Outcome State Fault Refusal :=
  .next (s.hostCommand 0x72#8 performSetFrameLimit event)

end Sys2Proof.Machine
end

