-- ==== Sys2Proof/Machine/ContextCommands.lean ====
section
/-! DEFINITION. DEFINE CONTEXT, DELETE CONTEXT, READ CONTEXT (chapter 2). -/

namespace Sys2Proof.Machine

open Sys2Proof

/-- The contexts, C0 to C15. -/
def allContexts : List ContextId := [0, 1, 2, 3, 4, 5, 6, 7, 8, 9, 10, 11, 12, 13, 14, 15]

/-- The region of a DEFINED record shares an entry with the run of `pages` entries from `base`
(R21, R22). -/
def Context.overlaps (c : Context) (base pages : Nat) : Bool :=
  c.defined && decide (base < c.base + c.pages) && decide (c.base < base + pages)

/-- The lowest-numbered DEFINED context whose region shares an entry with the proposed one (R22). -/
def State.overlapping (s : State) (base pages : Nat) : Option ContextId :=
  allContexts.find? fun d => s.contexts[d].overlaps base pages

/-- DEFINE CONTEXT: the five checks of R22 in order, then the record DEFINED. -/
def performDefineContext (p : ParamWords) (s : State) : Performed :=
  match contextParam p[0], yesNoParam p[3] with
  | some c, some readOnly =>
    if s.contexts[c].defined then performedFail s .defined
    else if p[2].toNat = 0 ∨ 2048 < p[1].toNat + p[2].toNat then performedFail s .range
    else match s.overlapping p[1].toNat p[2].toNat with
      | some d => ⟨s, .overlap, #v[place 0 d.val, 0#32, 0#32, 0#32]⟩
      | none =>
        performedOk (s.updateContext c fun _ =>
          ⟨true, p[1].toNat, p[2].toNat, readOnly, 0, .none⟩)
  | _, _ => performedFail s .badParameter

/-- DEFINE_CONTEXT. -/
def execDefineContext (event : CommandEvent) (s : State) : Host.Outcome State Fault Refusal :=
  .next (s.hostCommand 0x10#8 performDefineContext event)

/-- DELETE CONTEXT: the three checks of R24, then the record FREE. -/
def performDeleteContext (p : ParamWords) (s : State) : Performed :=
  match contextParam p[0] with
  | some c =>
    if s.contexts[c].defined = false then performedFail s .notDefined
    else if 0 < s.contexts[c].bindCount ∨ s.contexts[c].mark ≠ .none then performedFail s .inUse
    else performedOk (s.updateContext c fun _ => Context.free)
  | none => performedFail s .badParameter

/-- DELETE_CONTEXT. -/
def execDeleteContext (event : CommandEvent) (s : State) : Host.Outcome State Fault Refusal :=
  .next (s.hostCommand 0x11#8 performDeleteContext event)

/-- READ CONTEXT: the six fields in the result words, a FREE record too (R25). -/
def performReadContext (p : ParamWords) (s : State) : Performed :=
  match contextParam p[0] with
  | some c => ⟨s, .ok, contextWords s.contexts[c]⟩
  | none => performedFail s .badParameter

/-- READ_CONTEXT. -/
def execReadContext (event : CommandEvent) (s : State) : Host.Outcome State Fault Refusal :=
  .next (s.hostCommand 0x12#8 performReadContext event)

end Sys2Proof.Machine
end

