-- ==== Sys2Proof/Machine/EngineEvents.lean ====
section
/-! DEFINITION. The transfer engine's own events (sections 8.4, 8.5, 8.6). An event that is not due
leaves the state as it is (log 2). -/

namespace Sys2Proof.Machine

open Sys2Proof

/-- LOAD_CHUNK_BEGIN: the first engine event of a LOAD in RUNNING asks for the first chunk; later
chunks begin with the last write of the one before (R133, log 11). -/
def execLoadChunkBegin (s : State) : Host.Outcome State Fault Refusal :=
  match s.engine.state with
  | .running t w =>
    match t.job with
    | .load _ => .next (if w.stage = none then s.requestChunk t w else s)
    | .dump _ _ | .fill _ => .next s
  | .idle | .draining _ => .next s

/-- The write of a LOAD's entry at run position DONE, and DONE raised (R134). -/
def State.writeRunEntry (s : State) (t : Transfer) (fields : Fields) : State :=
  (s.storeWrite (s.runIndex t s.engine.outcome.done) fields .good).raiseDone 1

/-- After a LOAD's write: the end at COUNT, the next chunk's request after the chunk's last entry, or
the rest of the chunk (R133, R134). -/
def State.continueLoad (s : State) (t : Transfer) (w : Work) (rest : List ChunkImage) : State :=
  if s.engine.outcome.done = t.count then s.endTransfer .complete
  else if rest.isEmpty then s.requestChunk t { w with chunk := [] }
  else s.setEngineState (.running t { w with chunk := rest })

/-- LOAD_ENTRY_WRITE: one entry of the chunk written, fields from word 0 of its image, check GOOD
(R134). -/
def execLoadEntryWrite (s : State) : Host.Outcome State Fault Refusal :=
  match s.engine.state with
  | .running t w =>
    match t.job, w.stage, w.chunk with
    | .load _, some .writing, image :: rest =>
      .next ((s.writeRunEntry t (imageFields image.word0)).continueLoad t w rest)
    | _, _, _ => .next s
  | .idle | .draining _ => .next s

/-- FILL_ENTRY_WRITE: the ENTRY VALUE written to the next entry, the end at COUNT (R136). -/
def execFillEntryWrite (s : State) : Host.Outcome State Fault Refusal :=
  match s.engine.state with
  | .running t _ =>
    match t.job with
    | .fill value =>
      let written := s.writeRunEntry t value
      .next (if written.engine.outcome.done = t.count then written.endTransfer .complete
        else written)
    | .load _ | .dump _ _ => .next s
  | .idle | .draining _ => .next s

/-- The access of a DUMP to an entry: a plain read, or a read-and-clear with CLEAR-MARKS (R137). -/
def State.dumpAccess (s : State) (clearMarks : Bool) (i : Nat) : State :=
  if clearMarks then s.readAndClear i else s.plainRead i

/-- The image of an entry as read, before any clearing (R137, R176). -/
def dumpImage (e : MapEntry) (page : Nat) (c : ContextId) : ChunkImage :=
  ⟨page, imageWord0 e, imageWord1 page c⟩

/-- The read of one entry for a DUMP's chunk; with the last of its entries the write is asked for in
the same event (R137). -/
def State.readForDump (s : State) (t : Transfer) (w : Work) (clearMarks : Bool) : State :=
  let position := s.engine.outcome.done + w.chunk.length
  let i := s.runIndex t position
  let chunk := w.chunk ++ [dumpImage (s.store.entry i) (t.firstPage + position) t.context]
  let read := s.dumpAccess clearMarks i
  if chunk.length < chunkSize t s.engine.outcome.done then
    read.setEngineState (.running t { w with chunk })
  else read.requestChunk t { w with chunk }

/-- DUMP_ENTRY_READ: due in READING (R137). -/
def execDumpEntryRead (s : State) : Host.Outcome State Fault Refusal :=
  match s.engine.state with
  | .running t w =>
    match t.job, w.stage with
    | .dump _ clearMarks, some .reading => .next (s.readForDump t w clearMarks)
    | _, _ => .next s
  | .idle | .draining _ => .next s

end Sys2Proof.Machine
end

