-- ==== Sys2Proof/Machine/EntryCommands.lean ====
section
/-! DEFINITION. WRITE ENTRY, TEST ENTRY, PROBE (section 1.5). -/

namespace Sys2Proof.Machine

open Sys2Proof

/-- The checks on context and page that the entry commands begin with, in order: the store index
named, or the outcome of the first check that fails (R14). -/
def entryIndex (p : ParamWords) (s : State) : Except CommandOutcome Nat :=
  match contextParam p[0] with
  | none => .error .badParameter
  | some c =>
    if s.contexts[c].defined = false then .error .notDefined
    else if s.contexts[c].pages ≤ p[1].toNat then .error .range
    else .ok (s.contexts[c].base + p[1].toNat)

/-- The write of WRITE ENTRY and TEST ENTRY: the checks of R14, the FRAME check of R15, then one
write access with the check given. -/
def performEntryWrite (check : Check) (p : ParamWords) (s : State) : Performed :=
  match entryIndex p s with
  | .error outcome => performedFail s outcome
  | .ok i =>
    match frameParam p[2] with
    | none => performedFail s .badParameter
    | some frame => performedOk (s.storeWrite i (entryFields frame p[3]) check)

/-- WRITE_ENTRY: stores check GOOD (R15). -/
def execWriteEntry (event : CommandEvent) (s : State) : Host.Outcome State Fault Refusal :=
  .next (s.hostCommand 0x20#8 (performEntryWrite .good) event)

/-- TEST_ENTRY: stores check BAD (R16). -/
def execTestEntry (event : CommandEvent) (s : State) : Host.Outcome State Fault Refusal :=
  .next (s.hostCommand 0x21#8 (performEntryWrite .bad) event)

/-- PROBE: one plain read; the index, the fields, the check and the copy holders (R17). -/
def performProbe (p : ParamWords) (s : State) : Performed :=
  match entryIndex p s with
  | .error outcome => performedFail s outcome
  | .ok i => ⟨s.plainRead i, .ok, probeWords i (s.store.entry i) (s.copyHolders i)⟩

/-- PROBE. -/
def execProbe (event : CommandEvent) (s : State) : Host.Outcome State Fault Refusal :=
  .next (s.hostCommand 0x22#8 performProbe event)

end Sys2Proof.Machine
end

