-- ==== Sys2Proof/Machine/FaultCommands.lean ====
section
/-! DEFINITION. POP FAULT (section 7.4). -/

namespace Sys2Proof.Machine

open Sys2Proof

/-- The hand-off of the room freed to the port that stalled first: its record appended, the port off
the list, answered REFUSED and IDLE, READY re-evaluated (R119). -/
def State.handOff (s : State) : State :=
  match s.faults.stalled with
  | [] => s
  | (p, record) :: rest =>
    State.settle
      (State.appendAndAnswer { s with faults := { s.faults with stalled := rest } } p record)

/-- POP FAULT: the head removed and returned in the layout of FAULT HEAD, with the hand-off in the
same event; QUEUE_EMPTY when there is no record (R118). -/
def performPopFault (_params : ParamWords) (s : State) : Performed :=
  match s.faults.records with
  | [] => performedFail s .queueEmpty
  | head :: rest =>
    ⟨State.handOff { s with faults := { s.faults with records := rest } }, .ok, faultWords head⟩

/-- POP_FAULT. -/
def execPopFault (event : CommandEvent) (s : State) : Host.Outcome State Fault Refusal :=
  .next (s.hostCommand 0x40#8 performPopFault event)

end Sys2Proof.Machine
end

