-- ==== Sys2Proof/WellFormed.lean ====
section
/-! DEFINITION. Which terms are commands: the checks on operands that the types do not make. -/

namespace Sys2Proof

/-- A request carries LENGTH words of WRITE DATA for a WRITE and none for a READ (R33). -/
def Request.wellFormed (r : Request) : Bool :=
  match r.direction with
  | .read => r.data.isEmpty
  | .write => r.data.length == r.length.toNat

/-- An answer to a write carries no words (R102, R103). -/
def MemoryAnswer.carriesNoWords : MemoryAnswer → Bool
  | .ok words => words.isEmpty
  | .error => true

/-- The words of the register window that a write reaches: COMMAND (word 2), PARAM0–PARAM5 (3–8),
EVENTS (13) and EVENT ENABLE (14); a write to any other word is ignored (R163). -/
def isWritableWord (number : Fin 32) : Bool :=
  (2 ≤ number.val && number.val ≤ 8) || number.val == 13 || number.val == 14

/-- The operands make a command of the row. -/
def Instr.wellFormed : Instr → Bool
  | .unknownCommand word => !knownCodes.contains (commandCode word)
  | .ignoredRegisterWrite number _ => !isWritableWord number
  | .requestPresented _ request => request.wellFormed
  | .dumpChunkAnswer answer => answer.carriesNoWords
  | .defineContext _ | .deleteContext _ | .readContext _ | .writeEntry _ | .testEntry _
  | .probe _ | .bindPort _ | .releasePort _ | .suspendPort _ | .admitPort _ | .readPort _
  | .flushPort _ | .resumeHeld _ | .cancelHeld _ | .popFault _ | .startLoad _ | .startDump _
  | .startFill _ | .abortTransfer _ | .setWindow _ | .readWindow _ | .quiesce _ | .wake _
  | .setFrameLimit _ | .softReset _ | .discardedCommandWrite _ | .paramWrite _ _
  | .eventsAcknowledge _ | .eventEnableWrite _ | .powerOnReset | .pinReset | .pinResetRelease
  | .requestWithdrawn _ | .openingEvent _ | .pageLookup _ | .resumptionEvent _
  | .portTransactionAnswer _ | .loadChunkAnswer _ | .lateAnswer _ | .discardedAnswer _
  | .loadChunkBegin | .loadEntryWrite | .fillEntryWrite | .dumpEntryRead
  | .commandUnitCompletion => true

end Sys2Proof
end

