-- ==== Sys2Proof/Machine/HostWrites.lean ====
section
/-! DEFINITION. The host writes that are not known commands (sections 10.1, 10.2, 11.1), and the
completion of a command. While the reset input is held every write is ignored (R163). -/

namespace Sys2Proof.Machine

open Sys2Proof

/-- UNKNOWN_COMMAND: the take of a code that is not known; no block is reached, and the completion will
record UNKNOWN with the code as written (R168). -/
def execUnknownCommand (word : Word) (s : State) : Host.Outcome State Fault Refusal :=
  if Instr.wellFormed (.unknownCommand word) then
    .next (s.takeCommand (.performed (commandCode word) .unknown zeroResults))
  else .refused .illFormed

/-- DISCARDED_COMMAND_WRITE: a write to COMMAND while BUSY latches OVERRUN (R167). A write while IDLE
is not discarded, so it is none of this row's (log 2). -/
def execDiscardedCommandWrite (_word : Word) (s : State) : Host.Outcome State Fault Refusal :=
  .next (if s.command.status = .idle ∨ s.chip.resetHeld = true then s else s.latchOverrun)

/-- PARAM_WRITE: the word replaced; the latched parameters stay (R166). -/
def execParamWrite (index : Fin 6) (word : Word) (s : State) : Host.Outcome State Fault Refusal :=
  .next (if s.chip.resetHeld then s
    else { s with command := { s.command with params := s.command.params.set index word } })

/-- The latched flags with those whose bits are 1 in a word cleared (R171, R178). -/
def LatchedFlags.acknowledge (f : LatchedFlags) (word : Word) : LatchedFlags :=
  { transferEnd := f.transferEnd && !bitOf word 8
    storeError := f.storeError && !bitOf word 9
    watchNote := f.watchNote && !bitOf word 10
    quietReached := f.quietReached && !bitOf word 11
    overrun := f.overrun && !bitOf word 12 }

/-- EVENTS_ACKNOWLEDGE (R178). -/
def execEventsAcknowledge (word : Word) (s : State) : Host.Outcome State Fault Refusal :=
  .next (if s.chip.resetHeld then s else s.updateFlags fun f => f.acknowledge word)

/-- The enables that a word written to EVENT ENABLE gives (R171, R179). -/
def enablesOfWord (word : Word) : EventEnables :=
  { faults := bitOf word 0, stalled := bitOf word 1, held := bitOf word 2
    transferEnd := bitOf word 8, storeError := bitOf word 9, watchNote := bitOf word 10
    quietReached := bitOf word 11, overrun := bitOf word 12 }

/-- EVENT_ENABLE_WRITE (R179). -/
def execEventEnableWrite (word : Word) (s : State) : Host.Outcome State Fault Refusal :=
  .next (if s.chip.resetHeld then s
    else { s with chip := { s.chip with enables := enablesOfWord word } })

/-- IGNORED_REGISTER_WRITE: no effect (R163). -/
def execIgnoredRegisterWrite (number : Fin 32) (word : Word) (s : State) :
    Host.Outcome State Fault Refusal :=
  if Instr.wellFormed (.ignoredRegisterWrite number word) then .next s else .refused .illFormed

/-- COMMAND_UNIT_COMPLETION: the result words written, OUTCOME and LAST CODE recorded, STATUS IDLE, in
one event after the performance (R165). -/
def execCommandUnitCompletion (s : State) : Host.Outcome State Fault Refusal :=
  match s.command.status with
  | .performed code outcome results =>
    .next { s with
      command := { s.command with status := .idle, lastCode := code, outcome, results } }
  | .idle | .taken _ => .next s

end Sys2Proof.Machine
end

