-- ==== Sys2Proof/Machine/LinkEvents.lean ====
section
/-! DEFINITION. A channel's acts on its port link: presenting and withdrawing a request (section
3.1). -/

namespace Sys2Proof.Machine

open Sys2Proof

/-- The request on a link changed. -/
def State.setWaiting (s : State) (p : PortId) (waiting : Option Request) : State :=
  s.updatePort p fun port => { port with link := { port.link with waiting } }

/-- REQUEST_PRESENTED: taken at once when the port is READY, otherwise it waits (R36). -/
def execRequestPresented (p : PortId) (r : Request) (s : State) :
    Host.Outcome State Fault Refusal :=
  if Instr.wellFormed (.requestPresented p r) then
    if s.ports[p].link.waiting.isSome then .fault .linkOccupied
    else .next ((s.setWaiting p (some r)).tryTake p)
  else .refused .illFormed

/-- REQUEST_WITHDRAWN: a request not taken leaves no trace; a withdrawal after the take has no effect
(R37). -/
def execRequestWithdrawn (p : PortId) (s : State) : Host.Outcome State Fault Refusal :=
  .next (s.setWaiting p none)

end Sys2Proof.Machine
end

