-- ==== Sys2Proof/Machine/MemoryAnswers.lean ====
section
/-! DEFINITION. Memory's answers: to a port's segments (section 6.4), to the engine's chunks (section
6.5, chapter 8), and to transactions whose burst or transfer has ended (R110, R144). An answer of a
kind that nothing in flight awaits does not come, and leaves the state as it is (log 2). -/

namespace Sys2Proof.Machine

open Sys2Proof

/-- The words of an OK answer are as many as the transaction reads; a write returns none (R102,
R103). -/
def Transaction.fits (t : Transaction) (words : List Word) : Bool :=
  match t.direction with
  | .read => words.length == t.words
  | .write => words.isEmpty

/-! ## A port's transactions -/

/-- Where a segment's words lie in the burst buffer: segment 2 after segment 1 (R102). -/
def bufferPosition (segs : Segments) : PageIndex → Nat
  | .one => 0
  | .two => segs.first.words

/-- The words of an OK answer put in the buffer of the port (R102); a write brings none. -/
def State.receiveWords (s : State) (p : PortId) (position : Nat) (words : List Word) : State :=
  s.updatePort p fun port => { port with buffer := writeWords port.buffer position words }

/-- The data of a DONE: LENGTH words of the buffer for a READ, none for a WRITE (R34, R106). -/
def doneData (r : CurrentRequest) (buffer : Vector Word 64) : List Word :=
  if r.direction = .read then readWords buffer 0 r.length.toNat else []

/-- Segment 2 issued in the event of segment 1's OK answer (R102). -/
def State.issueSecond (s : State) (p : PortId) (r : CurrentRequest) (segs : Segments)
    (second : Segment) : State :=
  { s with
    memory := { s.memory with
      transaction :=
        some (segmentTransaction r.direction s.ports[p].buffer segs.first.words .two second) } }

/-- The burst carried out: DONE answered, HOLDER FREE, and what follows in the event: a waiting
request taken, the drain or the quiesce completed, the next grant (R102, R106). -/
def State.finishBurst (s : State) (p : PortId) (r : CurrentRequest) : State :=
  ((s.freeMemory.answer p (.done (doneData r s.ports[p].buffer))).settle).grant

/-- An ERROR answer: fault MEMORY from the failing segment, HOLDER FREE, the next grant (R106,
R107). -/
def State.memoryFault (s : State) (p : PortId) (r : CurrentRequest) (seg : Segment) : State :=
  (s.freeMemory.decideFault p r (segmentRecord p s.ports[p].binding r .memory seg)).grant

/-- The answer to the segment in flight of a port's MOVING burst (R106). -/
def State.answerSegment (s : State) (p : PortId) (r : CurrentRequest) (segs : Segments)
    (which : PageIndex) (answer : MemoryAnswer) : State :=
  match answer with
  | .error => s.memoryFault p r (segs.segment which)
  | .ok words =>
    let received := s.receiveWords p (bufferPosition segs which) words
    match which, segs.second with
    | .one, some second => received.issueSecond p r segs second
    | .one, none | .two, _ => received.finishBurst p r

/-- The answer fits the transaction in flight: an ERROR always does. -/
def Transaction.acceptsAnswer (t : Transaction) (a : MemoryAnswer) : Bool :=
  match a with
  | .ok words => t.fits words
  | .error => true

/-- PORT_TRANSACTION_ANSWER: due while a port holds the memory port (R106). -/
def execPortTransactionAnswer (answer : MemoryAnswer) (s : State) :
    Host.Outcome State Fault Refusal :=
  match s.memory.holder, s.memory.transaction with
  | .requester (.port p), some t =>
    match s.ports[p].burst, t.segment with
    | .moving r segs, some which =>
      if t.acceptsAnswer answer then .next (s.answerSegment p r segs which answer)
      else .fault .answerWords
    | _, _ => .next s
  | _, _ => .next s

/-! ## The engine's transactions -/

/-- A transfer ended by a memory ERROR, with the transaction's start address as the FAILING ADDRESS
(R135, R139). -/
def State.endWithError (s : State) (start : Word) (marksLost : Nat) : State :=
  (s.updateOutcome fun o =>
    { o with marksLost, failingAddress := some start }).endTransfer .memoryError

/-- The answer to a LOAD chunk read: the images to be written, or the end (R133, R135). -/
def State.answerLoad (s : State) (t : Transfer) (w : Work) (transaction : Transaction)
    (answer : MemoryAnswer) : State :=
  match answer with
  | .ok words =>
    (s.freeMemory.setEngineState (.running t
      { w with
        chunk := imagesOfWords (t.firstPage + s.engine.outcome.done) words
        stage := some .writing })).grant
  | .error => (s.freeMemory.endWithError transaction.start 0).grant

/-- LOAD_CHUNK_ANSWER: due while a LOAD's chunk is IN FLIGHT (R133). -/
def execLoadChunkAnswer (answer : MemoryAnswer) (s : State) : Host.Outcome State Fault Refusal :=
  match s.memory.holder, s.memory.transaction, s.engine.state with
  | .requester .engine, some transaction, .running t w =>
    match t.job with
    | .load _ =>
      if w.stage = some .inFlight ∧ s.engine.late = false then
        if transaction.acceptsAnswer answer then .next (s.answerLoad t w transaction answer)
        else .fault .answerWords
      else .next s
    | .dump _ _ | .fill _ => .next s
  | _, _, _ => .next s

/-- The OK answer to a DUMP chunk write: DONE raised and the CHUNK emptied; the transfer ends COMPLETE
at COUNT, ABORTED when an abort is pending, or reads on (R138, R143). -/
def State.acceptDump (s : State) (t : Transfer) (w : Work) : State :=
  let counted := s.raiseDone w.chunk.length
  if counted.engine.outcome.done = t.count then counted.endTransfer .complete
  else if w.abortPending then counted.endTransfer .aborted
  else counted.setEngineState (.running t ⟨[], some .reading, false⟩)

/-- The answer to a DUMP chunk write; an ERROR ends the transfer, with MARKS LOST the chunk's entries
when marks were cleared (R138, R139). -/
def State.answerDump (s : State) (t : Transfer) (w : Work) (clearMarks : Bool)
    (transaction : Transaction) (answer : MemoryAnswer) : State :=
  match answer with
  | .ok _ => (s.freeMemory.acceptDump t w).grant
  | .error =>
    (s.freeMemory.endWithError transaction.start (if clearMarks then w.chunk.length else 0)).grant

/-- DUMP_CHUNK_ANSWER: due while a DUMP's chunk is IN FLIGHT (R138). -/
def execDumpChunkAnswer (answer : MemoryAnswer) (s : State) : Host.Outcome State Fault Refusal :=
  if Instr.wellFormed (.dumpChunkAnswer answer) then
    match s.memory.holder, s.memory.transaction, s.engine.state with
    | .requester .engine, some transaction, .running t w =>
      match t.job with
      | .dump _ clearMarks =>
        if w.stage = some .inFlight ∧ s.engine.late = false then
          .next (s.answerDump t w clearMarks transaction answer)
        else .next s
      | .load _ | .fill _ => .next s
    | _, _, _ => .next s
  else .refused .illFormed

/-! ## Answers that are discarded -/

/-- LATE_ANSWER: due while the engine holds the LATE TRANSACTION; the answer changes no entry, no
record and no event (R144). -/
def execLateAnswer (_answer : MemoryAnswer) (s : State) : Host.Outcome State Fault Refusal :=
  .next (if s.engine.late = true ∧ s.memory.holder = .requester .engine then
    (State.freeMemory { s with engine := { s.engine with late := false } }).grant
  else s)

/-- DISCARDED_ANSWER: due while HOLDER is DISCARDING (R110). -/
def execDiscardedAnswer (_answer : MemoryAnswer) (s : State) : Host.Outcome State Fault Refusal :=
  .next (if s.memory.holder = .discarding then s.freeMemory.grant else s)

end Sys2Proof.Machine
end

