-- ==== Sys2Proof/Machine/PortCommands.lean ====
section
/-! DEFINITION. BIND, RELEASE, SUSPEND, ADMIT, READ and FLUSH PORT (section 3.4, R91), RESUME HELD and
CANCEL HELD (section 9.5). Each begins with the port number check. -/

namespace Sys2Proof.Machine

open Sys2Proof

/-- The port number check: above 5 gives BAD_PARAMETER. -/
def withPort (w : Word) (s : State) (act : PortId → Performed) : Performed :=
  match portParam w with
  | some p => act p
  | none => performedFail s .badParameter

/-- BIND PORT: the five checks of R46 in order, then the port BOUND and BIND COUNT raised (R26). -/
def performBindPort (params : ParamWords) (s : State) : Performed :=
  withPort params[0] s fun p =>
    match contextParam params[1] with
    | none => performedFail s .badParameter
    | some c =>
      if s.ports[p].binding.isSome then performedFail s .wrongState
      else if s.ports[p].burst.isIdle = false then performedFail s .portBusy
      else if s.contexts[c].defined = false then performedFail s .notDefined
      else
        performedOk ((s.updatePort p fun port => { port with binding := some c }).updateContext c
          fun record => { record with bindCount := record.bindCount + 1 })

/-- BIND_PORT. -/
def execBindPort (event : CommandEvent) (s : State) : Host.Outcome State Fault Refusal :=
  .next (s.hostCommand 0x30#8 performBindPort event)

/-- RELEASE PORT: the checks of R47 in order, then the port DETACHED, its list emptied and BIND COUNT
lowered (R26, R93). -/
def performReleasePort (params : ParamWords) (s : State) : Performed :=
  withPort params[0] s fun p =>
    match s.ports[p].binding with
    | none => performedFail s .wrongState
    | some c =>
      if s.ports[p].burst.isIdle = false then performedFail s .portBusy
      else
        performedOk ((s.updatePort p fun port =>
          { port with binding := none, lookaside := [] }).updateContext c
            fun record => { record with bindCount := record.bindCount - 1 })

/-- RELEASE_PORT. -/
def execReleasePort (event : CommandEvent) (s : State) : Host.Outcome State Fault Refusal :=
  .next (s.hostCommand 0x31#8 performReleasePort event)

/-- The gate of a port changed. -/
def State.setGate (s : State) (p : PortId) (gate : Gate) : State :=
  s.updatePort p fun port => { port with gate }

/-- SUSPEND PORT: the gate SUSPENDED, in every port state (R49). -/
def performSuspendPort (params : ParamWords) (s : State) : Performed :=
  withPort params[0] s fun p => performedOk (s.setGate p .suspended)

/-- SUSPEND_PORT. -/
def execSuspendPort (event : CommandEvent) (s : State) : Host.Outcome State Fault Refusal :=
  .next (s.hostCommand 0x32#8 performSuspendPort event)

/-- ADMIT PORT: the gate ADMITTED; a waiting request is taken in the same event when READY then
holds (R36, R49). -/
def performAdmitPort (params : ParamWords) (s : State) : Performed :=
  withPort params[0] s fun p => performedOk ((s.setGate p .admitted).tryTake p)

/-- ADMIT_PORT. -/
def execAdmitPort (event : CommandEvent) (s : State) : Host.Outcome State Fault Refusal :=
  .next (s.hostCommand 0x33#8 performAdmitPort event)

/-- READ PORT: the seven items of R50, nothing changed. -/
def performReadPort (params : ParamWords) (s : State) : Performed :=
  withPort params[0] s fun p => ⟨s, .ok, portWords s.ports[p]⟩

/-- READ_PORT. -/
def execReadPort (event : CommandEvent) (s : State) : Host.Outcome State Fault Refusal :=
  .next (s.hostCommand 0x34#8 performReadPort event)

/-- FLUSH PORT: every copy removed from the port's list, in every burst state (R91). -/
def performFlushPort (params : ParamWords) (s : State) : Performed :=
  withPort params[0] s fun p =>
    performedOk (s.updatePort p fun port => { port with lookaside := [] })

/-- FLUSH_PORT. -/
def execFlushPort (event : CommandEvent) (s : State) : Host.Outcome State Fault Refusal :=
  .next (s.hostCommand 0x35#8 performFlushPort event)

/-- RESUME HELD: HELD to QUEUED with the segments found at translation; the request on the memory
port begins (R158, R99). -/
def performResumeHeld (params : ParamWords) (s : State) : Performed :=
  withPort params[0] s fun p =>
    match s.ports[p].burst with
    | .held r segs _ _ => performedOk (s.setBurst p (.queued r segs)).grant
    | .idle | .opening _ | .walking _ _ | .fenced _ | .stalled _ | .queued _ _ | .moving _ _ =>
      performedFail s .notHeld

/-- RESUME_HELD. -/
def execResumeHeld (event : CommandEvent) (s : State) : Host.Outcome State Fault Refusal :=
  .next (s.hostCommand 0x36#8 performResumeHeld event)

/-- CANCEL HELD: the burst refused with fault WATCH, its record from the WATCH segment, appended or
stalled (R159). -/
def performCancelHeld (params : ParamWords) (s : State) : Performed :=
  withPort params[0] s fun p =>
    match s.ports[p].burst with
    | .held r segs _ watchSegment =>
      performedOk (s.decideFault p r
        (segmentRecord p s.ports[p].binding r .watch (segs.segment watchSegment)))
    | .idle | .opening _ | .walking _ _ | .fenced _ | .stalled _ | .queued _ _ | .moving _ _ =>
      performedFail s .notHeld

/-- CANCEL_HELD. -/
def execCancelHeld (event : CommandEvent) (s : State) : Host.Outcome State Fault Refusal :=
  .next (s.hostCommand 0x37#8 performCancelHeld event)

end Sys2Proof.Machine
end

