-- ==== Sys2Proof/Machine/Resets.lean ====
section
/-! DEFINITION. The three resets (R184, R185 and the rules R185 names), and the release of the reset
input. -/

namespace Sys2Proof.Machine

open Sys2Proof

/-- A port at a reset: a burst is answered REFUSED(RESET); DETACHED, SUSPENDED, IDLE, its list empty; a
request waiting on the link stays (R52, R53, R36). -/
def Port.reset (port : Port) : Port :=
  { port with
    binding := none, gate := .suspended, burst := .idle, lookaside := []
    link :=
      if port.burst.isIdle then port.link
      else { port.link with answers := port.link.answers ++ [.refused .reset] } }

/-- The memory port at a pin or soft reset: a transaction in flight is left to its answer, HOLDER
DISCARDING; otherwise FREE (R110). -/
def MemoryPort.reset (m : MemoryPort) : MemoryPort :=
  { m with holder := if m.transaction.isSome then .discarding else .free }

/-- A context record at a soft reset: BIND COUNT 0 and mark NONE, the rest kept (R32). -/
def Context.softReset (c : Context) : Context := { c with bindCount := 0, mark := .none }

/-- The soft reset of the part: traffic ends, the configuration is kept (R185). The command unit's
own values are those of the completion that follows (R170). -/
def State.softReset (s : State) : State :=
  { s with
    contexts := Vector.ofFn fun c : ContextId => s.contexts[c].softReset
    ports := Vector.ofFn fun p : PortId => s.ports[p].reset
    memory := s.memory.reset
    faults := ⟨[], [], 0#16⟩
    engine := Engine.initial
    chip := { s.chip with flags := LatchedFlags.clear, mode := .running, resetCause := .soft } }

/-- SOFT RESET as a command: its performance is the soft reset (R170). -/
def performSoftReset (_params : ParamWords) (s : State) : Performed := performedOk s.softReset

/-- SOFT_RESET. -/
def execSoftReset (event : CommandEvent) (s : State) : Host.Outcome State Fault Refusal :=
  .next (s.hostCommand 0x7F#8 performSoftReset event)

/-- The acts of a pin reset at the assertion of the reset input: the map store's entries are kept, and
nothing else of the host's (R185). -/
def State.pinReset (s : State) : State :=
  { s with
    store := { s.store with errorIndex := none }
    contexts := Vector.replicate 16 Context.free
    ports := Vector.ofFn fun p : PortId => s.ports[p].reset
    memory := { s.memory.reset with pointer := .port 0 }
    faults := ⟨[], [], 0#16⟩
    engine := Engine.initial
    windows := Vector.replicate 4 Window.initial
    command := CommandUnit.initial
    chip := { ChipControl.initial with resetCause := .pin, resetHeld := true } }

/-- PIN_RESET: the assertion of the reset input; an input already held is not asserted again. -/
def execPinReset (s : State) : Host.Outcome State Fault Refusal :=
  .next (if s.chip.resetHeld then s else s.pinReset)

/-- PIN_RESET_RELEASE: the release of the reset input ends the reset (R184). -/
def execPinResetRelease (s : State) : Host.Outcome State Fault Refusal :=
  .next { s with chip := { s.chip with resetHeld := false } }

/-- A port at a power-on reset: its power-on values, with the link as it stands; a power-on reset
sends no answer (R36, R52, R53). -/
def Port.powerOn (port : Port) : Port := { Port.initial with link := port.link }

/-- POWER_ON_RESET: every block at its power-on values (R185). The level of the reset input and the
requests on the links belong to the board and stay as they stand (log 12). -/
def execPowerOnReset (s : State) : Host.Outcome State Fault Refusal :=
  .next { State.reset with
    ports := Vector.ofFn fun p : PortId => s.ports[p].powerOn
    chip := { ChipControl.initial with resetHeld := s.chip.resetHeld }
    pending := s.pending }

end Sys2Proof.Machine
end

