-- ==== Sys2Proof/Machine/TransferCommands.lean ====
section
/-! DEFINITION. START LOAD, START DUMP, START FILL and ABORT TRANSFER (sections 8.2 and 8.7). -/

namespace Sys2Proof.Machine

open Sys2Proof

/-- LIST ADDRESS, of a LOAD or DUMP (R127). -/
def TransferJob.listAddress : TransferJob → Option Word
  | .load a | .dump a _ => some a
  | .fill _ => none

/-- Checks 6 and 7 of R129 on the list of a LOAD or DUMP; the outcome of the one that fails. -/
def listFault (job : TransferJob) (count limit : Nat) : Option CommandOutcome :=
  match job.listAddress with
  | none => none
  | some a =>
    if a.toNat % 8 ≠ 0 then some .badParameter
    else if 4294967296 < a.toNat + 8 * count ∨ limit * 4096 < a.toNat + 8 * count then some .range
    else none

/-- A start command: the seven checks of R129 in order, then the acts of R130. The fence and the
job are absent when a parameter of theirs lies outside its values (check 3). -/
def performStart (context firstPage count : Word) (fence : Option Bool) (job : Option TransferJob)
    (s : State) : Performed :=
  if s.engine.state.isIdle = false then performedFail s .engineBusy
  else if s.chip.mode ≠ .running then performedFail s .notRunning
  else match contextParam context, fence, job with
    | some c, some f, some j =>
      if s.contexts[c].defined = false then performedFail s .notDefined
      else if count.toNat = 0 ∨ 2048 < count.toNat ∨
          s.contexts[c].pages < firstPage.toNat + count.toNat then performedFail s .range
      else match listFault j count.toNat s.chip.frameLimit with
        | some outcome => performedFail s outcome
        | none => performedOk (s.startTransfer ⟨j, c, firstPage.toNat, count.toNat, f⟩)
    | _, _, _ => performedFail s .badParameter

/-- START LOAD: context, first page, count, list address, fence (R129, R174). -/
def performStartLoad (p : ParamWords) (s : State) : Performed :=
  performStart p[0] p[1] p[2] (yesNoParam p[4]) (some (.load p[3])) s

/-- START_LOAD. -/
def execStartLoad (event : CommandEvent) (s : State) : Host.Outcome State Fault Refusal :=
  .next (s.hostCommand 0x50#8 performStartLoad event)

/-- START DUMP: context, first page, count, list address, fence, clear-marks (R129, R174). -/
def performStartDump (p : ParamWords) (s : State) : Performed :=
  performStart p[0] p[1] p[2] (yesNoParam p[4]) ((yesNoParam p[5]).map fun clear => .dump p[3] clear) s

/-- START_DUMP. -/
def execStartDump (event : CommandEvent) (s : State) : Host.Outcome State Fault Refusal :=
  .next (s.hostCommand 0x51#8 performStartDump event)

/-- START FILL: context, first page, count, FRAME, entry flags, fence (R129, R174). -/
def performStartFill (p : ParamWords) (s : State) : Performed :=
  performStart p[0] p[1] p[2] (yesNoParam p[5])
    ((frameParam p[3]).map fun frame => .fill (entryFields frame p[4])) s

/-- START_FILL. -/
def execStartFill (event : CommandEvent) (s : State) : Host.Outcome State Fault Refusal :=
  .next (s.hostCommand 0x52#8 performStartFill event)

/-- LATE TRANSACTION made present (R144). -/
def State.holdLate (s : State) : State := { s with engine := { s.engine with late := true } }

/-- The abort of a running DUMP by the stage of its chunk (R143): ended at once with nothing read;
cut to the images read, and their write asked for; or left to its answer. -/
def State.abortDump (s : State) (t : Transfer) (w : Work) : State :=
  match w.stage with
  | some .requesting | some .inFlight =>
    s.setEngineState (.running t { w with abortPending := true })
  | some .reading | some .writing | none =>
    if w.chunk.isEmpty then s.endTransfer .aborted
    else s.requestChunk t { w with abortPending := true }

/-- The abort of a transfer (R142): a request not granted is withdrawn with the engine IDLE, and a
LOAD's chunk read in flight becomes the LATE TRANSACTION (R144). -/
def State.abort (s : State) : State :=
  match s.engine.state with
  | .idle => s
  | .draining _ => s.endTransfer .aborted
  | .running t w =>
    match t.job with
    | .load _ =>
      (if w.stage = some .inFlight then s.holdLate else s).endTransfer .aborted
    | .fill _ => s.endTransfer .aborted
    | .dump _ _ => s.abortDump t w

/-- ABORT TRANSFER: ENGINE_IDLE when no transfer is in progress (R142). -/
def performAbortTransfer (_params : ParamWords) (s : State) : Performed :=
  if s.engine.state.isIdle then performedFail s .engineIdle else performedOk s.abort

/-- ABORT_TRANSFER. -/
def execAbortTransfer (event : CommandEvent) (s : State) : Host.Outcome State Fault Refusal :=
  .next (s.hostCommand 0x53#8 performAbortTransfer event)

end Sys2Proof.Machine
end

