-- ==== Sys2Proof/Machine/Watch.lean ====
section
/-! DEFINITION. The watch compare (sections 9.3 and 9.4). -/

namespace Sys2Proof.Machine

open Sys2Proof

/-- The address of a segment's last word (R154). -/
def Segment.lastWord (seg : Segment) : Nat := seg.start.toNat + 4 * (seg.words - 1)

/-- At least one word of the segment lies in the window's range (R154). -/
def Window.covers (w : Window) (seg : Segment) : Bool :=
  decide (seg.start.toNat ≤ w.high.toNat) && decide (w.low.toNat ≤ seg.lastWord)

/-- The window takes part in the compare of a burst: ENABLED, the direction and the port among its
own (R154). -/
def Window.watches (w : Window) (p : PortId) (direction : Direction) : Bool :=
  w.enabled && (if direction = .read then w.onRead else w.onWrite) && w.portSet.getLsbD p.val

/-- Some segment of the burst is matched by the window, as the first segment, the second, or
both (R154). -/
def Window.matchesBurst (w : Window) (p : PortId) (direction : Direction) (segs : Segments) : Bool :=
  w.watches p direction && (w.covers segs.first || segs.second.any w.covers)

/-- The segment from which LAST HIT and the WATCH segment are taken: the first when it matched
(R155, R156). -/
def Window.matchedSegment (w : Window) (segs : Segments) : PageIndex :=
  if w.covers segs.first then .one else .two

/-- The window's hit fields after a match: HIT COUNT raised, stopping at 65535, and LAST HIT with the
larger of LOW and the matched segment's start (R155). -/
def Window.hit (w : Window) (p : PortId) (r : CurrentRequest) (segs : Segments) : Window :=
  let start := (segs.segment (w.matchedSegment segs)).start
  { w with
    hitCount := min 65535 (w.hitCount + 1)
    lastHit := some ⟨p, if start.toNat ≤ w.low.toNat then w.low else start, r.direction, r.length⟩ }

/-- The HOLD windows that match a burst, in rising order: the hold set of the burst (R156). -/
def State.holdSetOf (s : State) (p : PortId) (direction : Direction) (segs : Segments) :
    List WindowId :=
  allWindows.filter fun w =>
    s.windows[w].matchesBurst p direction segs && decide (s.windows[w].action = .hold)

/-- The WATCH segment: the lowest-numbered segment that a window of the hold set matched (R156). -/
def State.watchSegmentOf (s : State) (holdSet : List WindowId) (segs : Segments) : PageIndex :=
  if holdSet.any fun w => s.windows[w].covers segs.first then .one else .two

/-- The hits of every matching window recorded (R155). -/
def State.recordHits (s : State) (p : PortId) (r : CurrentRequest) (segs : Segments) : State :=
  { s with
    windows := Vector.ofFn fun w : WindowId =>
      if s.windows[w].matchesBurst p r.direction segs then s.windows[w].hit p r segs
      else s.windows[w] }

/-- WATCH_NOTE latched when some window matched and none of the matching ones holds (R156). -/
def State.noteMatches (s : State) (p : PortId) (direction : Direction) (segs : Segments) : State :=
  if allWindows.any fun w => s.windows[w].matchesBurst p direction segs then
    s.updateFlags fun f => { f with watchNote := true }
  else s

/-- The watch compare of a burst whose last page has passed: hits recorded, then HELD with its hold
set when a HOLD window matched, otherwise QUEUED, the request on the memory port begun (R154, R156,
R99, R100). -/
def State.watchCompare (s : State) (p : PortId) (r : CurrentRequest) (segs : Segments) : State :=
  if (s.holdSetOf p r.direction segs).isEmpty then
    (((s.noteMatches p r.direction segs).recordHits p r segs).setBurst p (.queued r segs)).grant
  else
    (s.recordHits p r segs).setBurst p
      (.held r segs (s.holdSetOf p r.direction segs)
        (s.watchSegmentOf (s.holdSetOf p r.direction segs) segs))

end Sys2Proof.Machine
end

