-- ==== Sys2Proof/Machine/Translation.lean ====
section
/-! DEFINITION. Translating a burst: the opening event, the page lookups and the resumption event
(chapter 4). An event that is not due at the port leaves the state as it is (log 2). -/

namespace Sys2Proof.Machine

open Sys2Proof

/-! ## The page split (R61, R62) -/

/-- The first logical page of a request. -/
def CurrentRequest.firstPage (r : CurrentRequest) : Nat := r.address.toNat / 4096

/-- The offset of the first word in the first page. -/
def CurrentRequest.offset (r : CurrentRequest) : Nat := r.address.toNat % 4096

/-- The page of the final word, 4 × (LENGTH − 1) bytes after the first. -/
def CurrentRequest.lastPage (r : CurrentRequest) : Nat :=
  (r.address.toNat + 4 * (r.length.toNat - 1)) / 4096

/-- PAGE COUNT. -/
def CurrentRequest.pageCount (r : CurrentRequest) : PageIndex :=
  if r.lastPage = r.firstPage then .one else .two

/-- The burst's final byte would lie beyond the top of the logical space (R62). -/
def CurrentRequest.passesTop (r : CurrentRequest) : Bool :=
  decide (4294967296 < r.address.toNat + 4 * r.length.toNat)

/-- The logical page of a place in the burst (R61, R63). -/
def CurrentRequest.pageAt (r : CurrentRequest) : PageIndex → Nat
  | .one => r.firstPage
  | .two => r.firstPage + 1

/-- The words of the burst that lie in a page of it (R61). -/
def CurrentRequest.wordsAt (r : CurrentRequest) : PageIndex → Nat
  | .one => min r.length.toNat ((4096 - r.offset) / 4)
  | .two => r.length.toNat - min r.length.toNat ((4096 - r.offset) / 4)

/-! ## The opening and resumption events -/

/-- The fault of the format checks, in order, for a port bound to a context: MISALIGNED, LENGTH,
READONLY (R57, R58). -/
def formatFault (r : CurrentRequest) (c : Context) : Option FaultKind :=
  if r.address.toNat % 4 ≠ 0 then some .misaligned
  else if r.length.toNat = 0 ∨ 64 < r.length.toNat then some .length
  else if r.direction = .write ∧ c.readOnly = true then some .readonly
  else none

/-- The page split and the bound check of page 1: fault BOUND with PAGE INDEX 1, or the walk begins
(R61 to R64). -/
def State.splitPages (s : State) (p : PortId) (c : ContextId) (r : CurrentRequest) : State :=
  if r.passesTop ∨ s.contexts[c].pages ≤ r.firstPage then
    s.decideFault p r (faultRecord p (some c) r .bound (some .one) none none)
  else s.setBurst p (.walking r ⟨r.pageCount, .one, []⟩)

/-- The fence check, then the split: a FENCED mark sends the burst to FENCED, which may end a drain
(R59, R131). -/
def State.fenceCheck (s : State) (p : PortId) (c : ContextId) (r : CurrentRequest) : State :=
  if s.contexts[c].mark = .fenced then (s.setBurst p (.fenced r)).settle
  else s.splitPages p c r

/-- The opening event of a burst (R55 to R59). -/
def State.openBurst (s : State) (p : PortId) (r : CurrentRequest) : State :=
  match s.ports[p].binding with
  | none => s.decideFault p r (faultRecord p none r .unbound none none none)
  | some c =>
    match formatFault r s.contexts[c] with
    | some kind => s.decideFault p r (faultRecord p (some c) r kind none none none)
    | none => s.fenceCheck p c r

/-- OPENING_EVENT: due while the burst's PHASE is OPENING. -/
def execOpeningEvent (p : PortId) (s : State) : Host.Outcome State Fault Refusal :=
  match s.ports[p].burst with
  | .opening r => .next (s.openBurst p r)
  | .idle | .walking _ _ | .fenced _ | .held _ _ _ _ | .stalled _ | .queued _ _ | .moving _ _ =>
    .next s

/-- RESUMPTION_EVENT: due while the burst is FENCED. The mark is read afresh; FENCED leaves the burst
where it is, otherwise it returns to LOOKUP and the split (R60). -/
def execResumptionEvent (p : PortId) (s : State) : Host.Outcome State Fault Refusal :=
  match s.ports[p].burst, s.ports[p].binding with
  | .fenced r, some c =>
    .next (if s.contexts[c].mark = .fenced then s else s.splitPages p c r)
  | _, _ => .next s

/-! ## The page lookup -/

/-- The port's copy of a logical page that carries every mark the burst requires: a hit (R65, R86). -/
def lookasideHit (list : List Copy) (page : Nat) (direction : Direction) : Option Copy :=
  list.find? fun c => decide (c.page = page) && c.fields.carriesMarks direction

/-- The entry that a page's lookup tests: the copy's fields on a hit, the store's entry on a miss
(R65, R66). A copy always passes the tests of the check. -/
def State.foundEntry (s : State) (p : PortId) (i page : Nat) (direction : Direction) : MapEntry :=
  match lookasideHit s.ports[p].lookaside page direction with
  | some c => ⟨c.fields, .good⟩
  | none => s.store.entry i

/-- What a page's lookup changes before its tests decide: on a hit the copy moves to the front, on a
miss the store makes one read-and-mark (R65, R66, R86). -/
def State.lookup (s : State) (p : PortId) (i page : Nat) (direction : Direction) : State :=
  match lookasideHit s.ports[p].lookaside page direction with
  | some c => s.updatePort p fun port => { port with lookaside := moveToFront port.lookaside c }
  | none => s.readAndMark p i page direction

/-- The store index a fault record of a page's lookup carries: every kind its tests decide (R78). -/
def lookupFaultRecord (p : PortId) (c : ContextId) (r : CurrentRequest) (kind : FaultKind)
    (which : PageIndex) (i : Nat) (e : MapEntry) : FaultRecord :=
  faultRecord p (some c) r kind (some which) (some i)
    (if kind = .parity ∨ kind = .invalid then none else some e.fields.frame)

/-- A physical address from a frame and an offset in it (R75). -/
def physicalAddress (frame : FrameNumber) (offset : Nat) : Word :=
  BitVec.ofNat 32 (frame.toNat * 4096 + offset)

/-- The segment of a page that has passed (R75). -/
def segmentOf (r : CurrentRequest) (which : PageIndex) (result : PageResult) : Segment :=
  { start := physicalAddress result.frame (match which with
      | .one => r.offset
      | .two => 0)
    words := result.words, pageIndex := which, storeIndex := result.storeIndex,
    frame := result.frame }

/-- The segments built from PAGE RESULTS when the last page has passed (R75). -/
def segmentsOf (r : CurrentRequest) (walk : Walk) (last : PageResult) : Segments :=
  match walk.results with
  | first :: _ => ⟨segmentOf r .one first, some (segmentOf r .two last)⟩
  | [] => ⟨segmentOf r .one last, none⟩

/-- A page has passed: the bound check of a second page, or the segments and the watch compare
(R63, R64, R73, R75, R76). -/
def State.passPage (s : State) (p : PortId) (c : ContextId) (r : CurrentRequest) (walk : Walk)
    (result : PageResult) : State :=
  if walk.currentPage = .one ∧ walk.pageCount = .two then
    if s.contexts[c].pages ≤ r.pageAt .two then
      s.decideFault p r (faultRecord p (some c) r .bound (some .two) none none)
    else s.setBurst p (.walking r { walk with currentPage := .two, results := [result] })
  else s.watchCompare p r (segmentsOf r walk result)

/-- The lookup of the current page and its tests (R65 to R71). -/
def State.lookupPage (s : State) (p : PortId) (c : ContextId) (r : CurrentRequest) (walk : Walk) :
    State :=
  let page := r.pageAt walk.currentPage
  let i := s.contexts[c].base + page
  let e := s.foundEntry p i page r.direction
  let after := s.lookup p i page r.direction
  match pageFault e r.direction s.chip.frameLimit with
  | some kind => after.decideFault p r (lookupFaultRecord p c r kind walk.currentPage i e)
  | none =>
    after.passPage p c r walk ⟨page, i, e.fields.frame, r.wordsAt walk.currentPage⟩

/-- PAGE_LOOKUP: due while the burst's PHASE is WALKING. -/
def execPageLookup (p : PortId) (s : State) : Host.Outcome State Fault Refusal :=
  match s.ports[p].burst, s.ports[p].binding with
  | .walking r walk, some c => .next (s.lookupPage p c r walk)
  | _, _ => .next s

end Sys2Proof.Machine
end

