-- ==== Sys2Proof/Machine/WindowCommands.lean ====
section
/-! DEFINITION. SET WINDOW and READ WINDOW (section 9.2). -/

namespace Sys2Proof.Machine

open Sys2Proof

/-- Checks 2, 5, 6 and 7 of R151 on the directions and port set word, LOW and HIGH (R174: READ bit 0,
WRITE bit 1, the port set in bits 8–15, bit 14 or 15 a port above P5). -/
def windowValuesAllowed (low high selector : Word) : Bool :=
  (bitOf selector 0 || bitOf selector 1) && !(bitOf selector 14) && !(bitOf selector 15) &&
    decide (low.toNat % 4 = 0) && decide (high.toNat % 4 = 0) && decide (low.toNat ≤ high.toNat)

/-- SET WINDOW: the checks of R151, each giving BAD_PARAMETER, then the configuration set and the hit
fields restarted. -/
def performSetWindow (p : ParamWords) (s : State) : Performed :=
  match windowParam p[0], actionParam p[4], yesNoParam p[5] with
  | some w, some action, some enabled =>
    if windowValuesAllowed p[1] p[2] p[3] then
      performedOk { s with
        windows := s.windows.set w
          { enabled, low := p[1], high := p[2], onRead := bitOf p[3] 0, onWrite := bitOf p[3] 1,
            portSet := p[3].extractLsb' 8 6, action, hitCount := 0, lastHit := none } }
    else performedFail s .badParameter
  | _, _, _ => performedFail s .badParameter

/-- SET_WINDOW. -/
def execSetWindow (event : CommandEvent) (s : State) : Host.Outcome State Fault Refusal :=
  .next (s.hostCommand 0x60#8 performSetWindow event)

/-- READ WINDOW: the eight fields (R152). -/
def performReadWindow (p : ParamWords) (s : State) : Performed :=
  match windowParam p[0] with
  | some w => ⟨s, .ok, windowWords s.windows[w]⟩
  | none => performedFail s .badParameter

/-- READ_WINDOW. -/
def execReadWindow (event : CommandEvent) (s : State) : Host.Outcome State Fault Refusal :=
  .next (s.hostCommand 0x61#8 performReadWindow event)

end Sys2Proof.Machine
end

