-- ==== Sys2Proof/Machine/Dispatch.lean ====
section
/-! DEFINITION. One arm for each row of the command table. -/

namespace Sys2Proof.Machine

open Sys2Proof

def exec (i : Instr) (s : State) : Host.Outcome State Fault Refusal :=
  match i with
  | .defineContext event => Sys2Proof.Machine.execDefineContext event s
  | .deleteContext event => Sys2Proof.Machine.execDeleteContext event s
  | .readContext event => Sys2Proof.Machine.execReadContext event s
  | .writeEntry event => Sys2Proof.Machine.execWriteEntry event s
  | .testEntry event => Sys2Proof.Machine.execTestEntry event s
  | .probe event => Sys2Proof.Machine.execProbe event s
  | .bindPort event => Sys2Proof.Machine.execBindPort event s
  | .releasePort event => Sys2Proof.Machine.execReleasePort event s
  | .suspendPort event => Sys2Proof.Machine.execSuspendPort event s
  | .admitPort event => Sys2Proof.Machine.execAdmitPort event s
  | .readPort event => Sys2Proof.Machine.execReadPort event s
  | .flushPort event => Sys2Proof.Machine.execFlushPort event s
  | .resumeHeld event => Sys2Proof.Machine.execResumeHeld event s
  | .cancelHeld event => Sys2Proof.Machine.execCancelHeld event s
  | .popFault event => Sys2Proof.Machine.execPopFault event s
  | .startLoad event => Sys2Proof.Machine.execStartLoad event s
  | .startDump event => Sys2Proof.Machine.execStartDump event s
  | .startFill event => Sys2Proof.Machine.execStartFill event s
  | .abortTransfer event => Sys2Proof.Machine.execAbortTransfer event s
  | .setWindow event => Sys2Proof.Machine.execSetWindow event s
  | .readWindow event => Sys2Proof.Machine.execReadWindow event s
  | .quiesce event => Sys2Proof.Machine.execQuiesce event s
  | .wake event => Sys2Proof.Machine.execWake event s
  | .setFrameLimit event => Sys2Proof.Machine.execSetFrameLimit event s
  | .softReset event => Sys2Proof.Machine.execSoftReset event s
  | .unknownCommand word => Sys2Proof.Machine.execUnknownCommand word s
  | .discardedCommandWrite word => Sys2Proof.Machine.execDiscardedCommandWrite word s
  | .paramWrite index word => Sys2Proof.Machine.execParamWrite index word s
  | .eventsAcknowledge word => Sys2Proof.Machine.execEventsAcknowledge word s
  | .eventEnableWrite word => Sys2Proof.Machine.execEventEnableWrite word s
  | .ignoredRegisterWrite number word => Sys2Proof.Machine.execIgnoredRegisterWrite number word s
  | .powerOnReset => Sys2Proof.Machine.execPowerOnReset s
  | .pinReset => Sys2Proof.Machine.execPinReset s
  | .pinResetRelease => Sys2Proof.Machine.execPinResetRelease s
  | .requestPresented port request => Sys2Proof.Machine.execRequestPresented port request s
  | .requestWithdrawn port => Sys2Proof.Machine.execRequestWithdrawn port s
  | .openingEvent port => Sys2Proof.Machine.execOpeningEvent port s
  | .pageLookup port => Sys2Proof.Machine.execPageLookup port s
  | .resumptionEvent port => Sys2Proof.Machine.execResumptionEvent port s
  | .portTransactionAnswer answer => Sys2Proof.Machine.execPortTransactionAnswer answer s
  | .loadChunkAnswer answer => Sys2Proof.Machine.execLoadChunkAnswer answer s
  | .dumpChunkAnswer answer => Sys2Proof.Machine.execDumpChunkAnswer answer s
  | .lateAnswer answer => Sys2Proof.Machine.execLateAnswer answer s
  | .discardedAnswer answer => Sys2Proof.Machine.execDiscardedAnswer answer s
  | .loadChunkBegin => Sys2Proof.Machine.execLoadChunkBegin s
  | .loadEntryWrite => Sys2Proof.Machine.execLoadEntryWrite s
  | .fillEntryWrite => Sys2Proof.Machine.execFillEntryWrite s
  | .dumpEntryRead => Sys2Proof.Machine.execDumpEntryRead s
  | .commandUnitCompletion => Sys2Proof.Machine.execCommandUnitCompletion s

end Sys2Proof.Machine
end

