-- ==== Sys2Proof/Machine/HostPort.lean ====
section
/-! DEFINITION. The host bus port's write access (R163): the word of the window that is written, and for
COMMAND the code in the word (R165), pick the command. The read access is `State.hostRead`. -/

namespace Sys2Proof.Machine

open Sys2Proof

/-- A write of a word to a word of the window, one event at the block that owns it (R163); the number
is the offset divided by 4. -/
def State.hostWrite (s : State) (number : Fin 32) (word : Word) : Host.Outcome State Fault Refusal :=
  exec (windowWrite number word) s

end Sys2Proof.Machine
end

