-- ==== Sys2Proof/Safety.lean ====
section
/-! DEFINITION. The laws that the spec says hold of the part at every moment, each as a property of
one state. Each group of laws is kept by every step on its own (the statements of
Certificates/Slice0/Obligations.lean say so); `State.reset` obeys all of them. -/

namespace Sys2Proof.Machine

open Sys2Proof

/-! ## The context table (R20, R21, R26, R127) -/

/-- A DEFINED record has 1 to 2048 pages inside the store; a FREE record holds the FREE values. -/
abbrev Context.lawful (c : Context) : Prop :=
  if c.defined then 1 ≤ c.pages ∧ c.base + c.pages ≤ 2048 else c = Context.free

/-- The regions of DEFINED contexts never share a map store entry (R21). -/
abbrev State.regionsDisjoint (s : State) : Prop :=
  ∀ c d : ContextId, c ≠ d → s.contexts[c].defined = true → s.contexts[d].defined = true →
    s.contexts[c].base + s.contexts[c].pages ≤ s.contexts[d].base ∨
      s.contexts[d].base + s.contexts[d].pages ≤ s.contexts[c].base

/-- The number of ports bound to a context. -/
def State.portsBound (s : State) (c : ContextId) : Nat :=
  (allPorts.filter fun p => decide (s.ports[p].binding = some c)).length

/-- The mark that a transfer in progress puts on a context: FENCED or PLAIN on its target, NONE on
the others (R127). -/
def EngineState.markOn (e : EngineState) (c : ContextId) : TransferMark :=
  match e.transfer with
  | some t => if t.context = c then (if t.fence then .fenced else .plain) else .none
  | none => .none

/-- The run of a transfer in progress lies in the region of its context, which is DEFINED (R129). -/
abbrev State.runInRegion (s : State) : Prop :=
  ∀ t ∈ s.engine.state.transfer,
    s.contexts[t.context].defined = true ∧ 1 ≤ t.count ∧
      t.firstPage + t.count ≤ s.contexts[t.context].pages

/-- The laws of the context table: R20, R21, R26 and R127. -/
structure State.TableLawful (s : State) : Prop where
  records : ∀ c : ContextId, s.contexts[c].lawful
  disjoint : s.regionsDisjoint
  counts : ∀ c : ContextId, s.contexts[c].bindCount = s.portsBound c
  bound : ∀ p : PortId, ∀ c ∈ s.ports[p].binding, s.contexts[c].defined = true
  marks : ∀ c : ContextId, s.contexts[c].mark = s.engine.state.markOn c
  run : s.runInRegion

/-! ## The lookaside buffers (R84, R85) -/

/-- The page being walked lies below the PAGES of the port's context: its bound check has passed
(R64). -/
abbrev State.walkInRegion (s : State) (p : PortId) : Prop :=
  match s.ports[p].burst with
  | .walking r walk => ∀ c ∈ s.ports[p].binding, r.pageAt walk.currentPage < s.contexts[c].pages
  | .idle | .opening _ | .fenced _ | .held _ _ _ _ | .stalled _ | .queued _ _ | .moving _ _ => True

/-- A copy lies in the region of a context, under its own page, and equals its entry, which is VALID
with a GOOD check. -/
abbrev State.copyLawful (s : State) (c : ContextId) (copy : Copy) : Prop :=
  copy.page < s.contexts[c].pages ∧ copy.storeIndex = s.contexts[c].base + copy.page ∧
    s.store.entry copy.storeIndex = ⟨copy.fields, .good⟩ ∧ copy.fields.valid = true

/-- The list of a DETACHED port is empty; that of a BOUND port holds at most 8 copies, no two of one
entry, each lawful in its context. -/
abbrev State.listLawful (s : State) (p : PortId) : Prop :=
  match s.ports[p].binding with
  | none => s.ports[p].lookaside = []
  | some c =>
    s.ports[p].lookaside.length ≤ 8 ∧
      (s.ports[p].lookaside.map Copy.storeIndex).Nodup ∧
      ∀ copy ∈ s.ports[p].lookaside, s.copyLawful c copy

/-- The two laws of R85, with the laws they lean on. -/
structure State.LookasideLawful (s : State) : Prop where
  table : s.TableLawful
  walks : ∀ p : PortId, s.walkInRegion p
  lists : ∀ p : PortId, s.listLawful p

/-! ## The fault queue (R111 to R116) -/

/-- The burst state is STALLED. -/
def Burst.isStalled : Burst → Bool
  | .stalled _ => true
  | .idle | .opening _ | .walking _ _ | .fenced _ | .held _ _ _ _ | .queued _ _ | .moving _ _ =>
    false

/-- The burst has passed the binding check: its port is BOUND (R48, R56). -/
def Burst.needsBinding : Burst → Bool
  | .walking _ _ | .fenced _ | .held _ _ _ _ | .queued _ _ | .moving _ _ => true
  | .idle | .opening _ | .stalled _ => false

/-- The optional fields that a KIND carries: CONTEXT, PAGE INDEX, STORE INDEX, FRAME (R112). -/
def FaultKind.fields : FaultKind → Bool × Bool × Bool × Bool
  | .unbound => (false, false, false, false)
  | .misaligned | .length | .readonly => (true, false, false, false)
  | .bound => (true, true, false, false)
  | .parity | .invalid => (true, true, true, false)
  | .noRead | .noWrite | .limit | .watch | .memory => (true, true, true, true)

/-- The record carries the optional fields of its KIND (R112). -/
abbrev FaultRecord.lawful (r : FaultRecord) : Prop :=
  (r.context.isSome, r.pageIndex.isSome, r.storeIndex.isSome, r.frame.isSome) = r.kind.fields

/-- The records carry consecutive sequence numbers, the last the counter's value less 1 (R113,
R114). -/
abbrev FaultQueue.numbered (q : FaultQueue) : Prop :=
  ∀ k (h : k < q.records.length),
    q.records[k].seq = q.counter - BitVec.ofNat 16 (q.records.length - k)

/-- The laws of the fault queue and the stall list (R112, R113, R116). -/
structure State.FaultsLawful (s : State) : Prop where
  depth : s.faults.records.length ≤ 16
  numbered : s.faults.numbered
  stalledOnce : (s.faults.stalled.map Prod.fst).Nodup
  stalledPorts : ∀ p : PortId, p ∈ s.faults.stalled.map Prod.fst ↔ s.ports[p].burst.isStalled = true
  stalledFull : s.faults.stalled ≠ [] → s.faults.records.length = 16
  queued : ∀ q ∈ s.faults.records, q.record.lawful
  waiting : ∀ e ∈ s.faults.stalled, e.2.lawful ∧ e.2.port = e.1
  bindings : ∀ p : PortId, s.ports[p].burst.needsBinding = true → s.ports[p].binding.isSome = true

/-! ## The memory port (R98 to R104) -/

/-- The engine's chunk transaction is in flight (R127). -/
def EngineState.isInFlight : EngineState → Bool
  | .running _ w => decide (w.stage = some .inFlight)
  | .idle | .draining _ => false

/-- The burst state is MOVING. -/
def Burst.isMoving : Burst → Bool
  | .moving _ _ => true
  | .idle | .opening _ | .walking _ _ | .fenced _ | .held _ _ _ _ | .stalled _ | .queued _ _ => false

/-- The transaction is segment 1 of the burst, or segment 2 of a burst of two (R102). -/
abbrev Transaction.serves (t : Transaction) (r : CurrentRequest) (segs : Segments) : Prop :=
  t.direction = r.direction ∧
    ((t.segment = some .one ∧ t.start = segs.first.start ∧ t.words = segs.first.words) ∨
      (t.segment = some .two ∧ ∃ second ∈ segs.second,
        t.start = second.start ∧ t.words = second.words))

/-- The transaction in flight serves the port's burst while it is MOVING. -/
abbrev State.servesMoving (s : State) (p : PortId) : Prop :=
  match s.ports[p].burst with
  | .moving r segs => ∃ t ∈ s.memory.transaction, t.serves r segs
  | .idle | .opening _ | .walking _ _ | .fenced _ | .held _ _ _ _ | .stalled _ | .queued _ _ => True

/-- A FILL has no chunk stage: it makes no request (R136). -/
abbrev EngineState.fillMakesNoRequest : EngineState → Prop
  | .running t w => t.job.kind = .fill → w.stage = none
  | .idle | .draining _ => True

/-- The laws of the memory port: HOLDER is the one requester at work on it, a transaction is present
whenever it is not FREE, and while it is FREE no requester requests (R98 to R104). They lean on the
laws of the stall list: a port that is handed off is STALLED, not MOVING. -/
structure State.MemoryLawful (s : State) : Prop where
  faults : s.FaultsLawful
  ports : ∀ p : PortId,
    s.ports[p].burst.isMoving = true ↔ s.memory.holder = .requester (.port p)
  engine : (s.engine.state.isInFlight || s.engine.late) = true ↔
    s.memory.holder = .requester .engine
  oneChunk : ¬ (s.engine.state.isInFlight = true ∧ s.engine.late = true)
  outstanding : s.memory.transaction.isSome = true ↔ s.memory.holder ≠ .free
  granted : s.memory.holder = .free →
    (∀ p : PortId, s.requests (.port p) = false) ∧ s.requests .engine = false
  serves : ∀ p : PortId, s.servesMoving p
  fills : s.engine.state.fillMakesNoRequest

/-! ## The frame limit on the memory port (R105, R129, R182, R183) -/

/-- The words of a transaction or segment lie below the frame limit × 4096. -/
abbrev endsBelow (start : Word) (words limit : Nat) : Prop :=
  start.toNat + 4 * words ≤ limit * 4096

/-- A burst's segments. -/
def Burst.segments : Burst → Option Segments
  | .held _ segs _ _ | .queued _ segs | .moving _ segs => some segs
  | .idle | .opening _ | .walking _ _ | .fenced _ | .stalled _ => none

/-- The segments of a burst lie below the limit. -/
abbrev Segments.endBelow (segs : Segments) (limit : Nat) : Prop :=
  endsBelow segs.first.start segs.first.words limit ∧
    ∀ second ∈ segs.second, endsBelow second.start second.words limit

/-- What a walk has found so far and has still to find keeps the burst below the limit: the request
is aligned and has 1 to 64 words (R57), and page 1, once passed, has a frame below the limit. -/
abbrev Burst.walkBelow (burst : Burst) (limit : Nat) : Prop :=
  match burst with
  | .walking r walk =>
    r.address.toNat % 4 = 0 ∧ 1 ≤ r.length.toNat ∧ r.length.toNat ≤ 64 ∧
      (∀ first ∈ walk.results, first.frame.toNat < limit ∧ first.words = r.wordsAt .one) ∧
      (walk.currentPage = .one ↔ walk.results = [])
  | .fenced r => r.address.toNat % 4 = 0 ∧ 1 ≤ r.length.toNat ∧ r.length.toNat ≤ 64
  | .idle | .opening _ | .held _ _ _ _ | .stalled _ | .queued _ _ | .moving _ _ => True

/-- The list of a transfer lies below the limit (R129). -/
abbrev Transfer.listBelow (t : Transfer) (limit : Nat) : Prop :=
  ∀ a ∈ t.job.listAddress, a.toNat + 8 * t.count ≤ limit * 4096

/-- DONE has not reached COUNT, the chunk of a DUMP lies within the run, and in READING it still lacks
an image (R137, R138). -/
abbrev State.transferProgress (s : State) : Prop :=
  match s.engine.state with
  | .idle => True
  | .draining t => s.engine.outcome.done < t.count
  | .running t w =>
    s.engine.outcome.done < t.count ∧
      (t.job.kind = .dump →
        s.engine.outcome.done + w.chunk.length ≤ t.count ∧
          (w.stage = some .reading → w.chunk.length < chunkSize t s.engine.outcome.done))

/-- The laws behind R105: no transaction addresses a byte at or above the frame limit × 4096. -/
structure State.LimitLawful (s : State) : Prop where
  range : 1 ≤ s.chip.frameLimit ∧ s.chip.frameLimit ≤ 1048576
  quiet : s.chip.mode = .quiet → s.atRest = true
  walks : ∀ p : PortId, s.ports[p].burst.walkBelow s.chip.frameLimit
  segments : ∀ p : PortId, ∀ segs ∈ s.ports[p].burst.segments, segs.endBelow s.chip.frameLimit
  lists : ∀ t ∈ s.engine.state.transfer, t.listBelow s.chip.frameLimit
  progress : s.transferProgress
  free : s.memory.holder = .free → s.memory.transaction = none
  transaction : ∀ t ∈ s.memory.transaction, endsBelow t.start t.words s.chip.frameLimit

/-! ## Drain, rest and READY (R36, R131, R182, R184) -/

/-- A transfer in DRAINING is fenced, and some port of its context holds the drain (R131). -/
abbrev State.drainLawful (s : State) : Prop :=
  match s.engine.state with
  | .draining t => t.fence = true ∧ s.drainHeld t.context = true
  | .idle | .running _ _ => True

/-- A port is at its reset values: DETACHED, SUSPENDED, IDLE, with an empty list (R53, R93). Its burst
buffer then has no meaning, and its link belongs to the channel. -/
abbrev Port.atReset (port : Port) : Prop :=
  port.binding = none ∧ port.gate = .suspended ∧ port.burst = .idle ∧ port.lookaside = []

/-- Every block holds the values that a power-on or pin reset leaves it, as it does while the reset
input is held (R184, R185): no STORE ERROR INDEX (R19), every context FREE (R32), the ports (R53),
POINTER P0 and no requester on the memory port (R110), the fault queue and the stall list empty (R125),
the engine (R149), the windows (R162), the command unit (R164), every flag and enable clear (R177, R179),
the mode RUNNING (R180) and the limit 1,048,576 (R183). A transaction left in flight is DISCARDING until
its answer (R110). -/
abbrev State.heldAtReset (s : State) : Prop :=
  s.store.errorIndex = none ∧ s.contexts = Vector.replicate 16 Context.free ∧
    (∀ p : PortId, s.ports[p].atReset) ∧
    s.memory.pointer = .port 0 ∧ (s.memory.holder = .free ∨ s.memory.holder = .discarding) ∧
    s.faults = ⟨[], [], 0#16⟩ ∧ s.engine = Engine.initial ∧
    s.windows = Vector.replicate 4 Window.initial ∧ s.command = CommandUnit.initial ∧
    s.chip.flags = LatchedFlags.clear ∧ s.chip.enables = EventEnables.clear ∧
    s.chip.mode = .running ∧ s.chip.frameLimit = 1048576 ∧
    (s.chip.resetCause = .powerOn ∨ s.chip.resetCause = .pin)

/-- The laws of the waiting conditions: a drain that could end has ended (R131), a QUIESCING part at
rest is QUIET and a QUIET part is at rest (R182), a request on a READY link has been taken (R36). -/
structure State.WaitingLawful (s : State) : Prop where
  drain : s.drainLawful
  quiescing : s.chip.mode = .quiescing → s.atRest = false
  quiet : s.chip.mode = .quiet → s.atRest = true
  ready : ∀ p : PortId, s.ports[p].link.waiting.isSome = true → s.ready p = false
  held : s.chip.resetHeld = true → s.heldAtReset

end Sys2Proof.Machine
end

