-- ==== Sys2Proof/Certificates/Slice0/Obligations.lean ====
section
/-! DEFINITION. The statements about the model, one definition each, listed in OBLIGATIONS.json. Each
is written from the rules of spec/ that its docstring names. A statement about a performance says what
the event at the owning block leaves (R165, step 2); the take and the completion of all 25 host
commands are stated once. -/

open Sys2Proof Sys2Proof.Machine

/-! ## Words the statements use -/

namespace Sys2Proof.Statements

/-- The 25 host commands with their codes (section 10.4). -/
def hostCommands : List (BitVec 8 × (CommandEvent → Instr)) :=
  [(0x10#8, .defineContext), (0x11#8, .deleteContext), (0x12#8, .readContext),
   (0x20#8, .writeEntry), (0x21#8, .testEntry), (0x22#8, .probe), (0x30#8, .bindPort),
   (0x31#8, .releasePort), (0x32#8, .suspendPort), (0x33#8, .admitPort), (0x34#8, .readPort),
   (0x35#8, .flushPort), (0x36#8, .resumeHeld), (0x37#8, .cancelHeld), (0x40#8, .popFault),
   (0x50#8, .startLoad), (0x51#8, .startDump), (0x52#8, .startFill), (0x53#8, .abortTransfer),
   (0x60#8, .setWindow), (0x61#8, .readWindow), (0x70#8, .quiesce), (0x71#8, .wake),
   (0x72#8, .setFrameLimit), (0x7F#8, .softReset)]

/-- The command of a code performed, with an outcome and result words that wait for the completion. -/
abbrev ends (t : State) (code : BitVec 8) (outcome : CommandOutcome) (results : ResultWords) : State :=
  { t with command := { t.command with status := .performed code outcome results } }

/-- The command performed with OK and result words of zeros. -/
abbrev succeeds (t : State) (code : BitVec 8) : State := ends t code .ok zeroResults

/-- The command turned away: nothing changed, result words of zeros (R169). -/
abbrev fails (s : State) (code : BitVec 8) (outcome : CommandOutcome) : State :=
  ends s code outcome zeroResults

/-- Bits `lo` to `lo + width - 1` of a word, as a number. -/
abbrev bits (w : Word) (lo width : Nat) : Nat := w.toNat / 2 ^ lo % 2 ^ width

/-- Every bit of a word outside the named fields, given as `(lo, width)`, is 0 (R163, R175). -/
abbrev unnamedZero (w : Word) (fields : List (Nat × Nat)) : Prop :=
  ∀ i : Fin 32, (∀ f ∈ fields, i.val < f.1 ∨ f.1 + f.2 ≤ i.val) → bits w i.val 1 = 0

/-- 1 for a set field, 0 for a clear one. -/
abbrev bit (b : Bool) : Nat := if b then 1 else 0

/-- The port with a change made to it, the other ports as they stand. -/
abbrev putPort (s : State) (q : PortId) (port : Port) : State := { s with ports := s.ports.set q port }

/-- The context record replaced, the others as they stand. -/
abbrev putContext (s : State) (c : ContextId) (record : Context) : State :=
  { s with contexts := s.contexts.set c record }

/-- The place of a requester in the cyclic order P0, P1, P2, P3, P4, P5, E (R100). -/
def place : Requester → Nat
  | .port p => p.val
  | .engine => 6

/-- How many places after POINTER a requester is examined (R100). -/
def turn (pointer r : Requester) : Nat := (place r + 7 - place pointer) % 7

end Sys2Proof.Statements

open Sys2Proof.Statements

/-! ## The queue, the step and the state after reset -/

/-- A step takes the command at the front of the queue and runs it on the state with the queue's
rest. -/
def Obligations.StepRunsFrontCommand : Prop :=
  ∀ (c : Instr) (rest : List Instr) (s : State),
    step { s with pending := c :: rest } = exec c { s with pending := rest }

/-- The model's choice (log 3): on an empty queue a step changes nothing; and no command changes the
queue. -/
def Obligations.QueueBelongsToStep : Prop :=
  (∀ s : State, s.pending = [] → step s = .next s) ∧
    ∀ (c : Instr) (s t : State), exec c s = .next t → t.pending = s.pending

/-- The power-on column of R185, block by block: the entries FRAME 0 with fields clear and checks GOOD, no
STORE ERROR INDEX (R19); every context FREE with the FREE values (R32); every port DETACHED, SUSPENDED
and IDLE with an empty list (R53, R93); the memory port FREE with POINTER P0 (R110); the fault queue and
the stall list empty, the counter 0 (R125); the engine IDLE with STATE NONE (R149); the windows disabled,
LOW and HIGH 0, READ alone, no port, NOTE, count 0, no last hit (R162); the command unit IDLE with code
00h, OUTCOME NONE and every word zero (R164); flags and enables clear (R177, R179), the mode RUNNING
(R180), the limit 1,048,576 (R183), the cause POWER_ON (R184). -/
def Sys2Proof.Statements.powerOnValues (s : State) : Prop :=
  (∀ i : Nat, s.store.entry i = ⟨⟨0#20, false, false, false, false, false⟩, .good⟩) ∧
  s.store.errorIndex = none ∧
  s.contexts = Vector.replicate 16 ⟨false, 0, 0, false, 0, .none⟩ ∧
  (∀ p : PortId, s.ports[p].binding = none ∧ s.ports[p].gate = .suspended ∧
    s.ports[p].burst = .idle ∧ s.ports[p].lookaside = []) ∧
  s.memory = ⟨.free, none, .port 0⟩ ∧
  s.faults = { records := [], stalled := [], counter := 0#16 } ∧
  s.engine = { state := .idle, late := false, outcome := ⟨.none, none, 0, 0, 0, 0, 0, none⟩ } ∧
  s.windows = Vector.replicate 4 ⟨false, 0#32, 0#32, true, false, 0#6, .note, 0, none⟩ ∧
  s.command =
    { status := .idle, lastCode := 0#8, outcome := .none
      params := Vector.replicate 6 0#32, latched := Vector.replicate 6 0#32
      results := Vector.replicate 4 0#32 } ∧
  s.chip =
    { flags := ⟨false, false, false, false, false⟩
      enables := ⟨false, false, false, false, false, false, false, false⟩
      mode := .running, frameLimit := 1048576, resetCause := .powerOn, resetHeld := s.chip.resetHeld }

/-- What a power-on reset leaves, by the power-on column of R185: every block at its values, and what the
host and the channels find, every word of the window, READY and HINT. That the reset input is released
in this state is the model's choice (log 12). -/
def Obligations.ResetWords : Prop :=
  powerOnValues State.reset ∧
  State.reset.hostRead 0 = 0x61600001#32 ∧ State.reset.hostRead 1 = 0x00000100#32 ∧
    State.reset.hostRead 25 = 0x00FFFFFF#32 ∧
    (∀ k : Fin 32, k ≠ 0 → k ≠ 1 → k ≠ 25 → State.reset.hostRead k = 0#32) ∧
    (∀ p : PortId, State.reset.ready p = false) ∧ State.reset.hint = false

/-- The model's choice (log 4): the breaches by a bus partner to which the spec gives no effect are
faults: a request presented on a link that holds one (R36), and an OK answer with another number of
words than its transaction's (R102, R103); and terms that stand for no command are refused. -/
def Obligations.ModelStops : Prop :=
  (∀ (s : State) (p : PortId) (r : Request), (r.direction = .read → r.data = []) →
    (r.direction = .write → r.data.length = r.length.toNat) → s.ports[p].link.waiting ≠ none →
    exec (.requestPresented p r) s = .fault .linkOccupied) ∧
  (∀ (s : State) (tr : Transaction) (words : List Word), s.memory.transaction = some tr →
    (tr.direction = .read ∧ words.length ≠ tr.words ∨ tr.direction = .write ∧ words ≠ []) →
    (∀ (p : PortId) (r : CurrentRequest) (segs : Segments) (which : PageIndex),
      s.memory.holder = .requester (.port p) → s.ports[p].burst = .moving r segs →
      tr.segment = some which →
      exec (.portTransactionAnswer (.ok words)) s = .fault .answerWords) ∧
    (∀ (t : Transfer) (w : Work) (a : Word), s.memory.holder = .requester .engine →
      s.engine.state = .running t w → t.job = .load a → w.stage = some .inFlight →
      s.engine.late = false → exec (.loadChunkAnswer (.ok words)) s = .fault .answerWords)) ∧
  ∀ s : State,
    (∀ word : Word, word.extractLsb' 0 8 ∈ hostCommands.map Prod.fst →
      exec (.unknownCommand word) s = .refused .illFormed) ∧
    (∀ (number : Fin 32) (word : Word),
      (2 ≤ number.val ∧ number.val ≤ 8 ∨ number.val = 13 ∨ number.val = 14) →
      exec (.ignoredRegisterWrite number word) s = .refused .illFormed) ∧
    (∀ (p : PortId) (r : Request), (r.direction = .read ∧ r.data ≠ [] ∨
        r.direction = .write ∧ r.data.length ≠ r.length.toNat) →
      exec (.requestPresented p r) s = .refused .illFormed) ∧
    ∀ (word : Word) (words : List Word),
      exec (.dumpChunkAnswer (.ok (word :: words))) s = .refused .illFormed

/-! ## The command unit (sections 10.1 and 10.2) -/

/-- A write to COMMAND (word 2) of a word whose bits 0–7 are the code of one of the 25 commands, whatever
its bits 8–31, is the take of that command (R165). The take: the parameters latched and STATUS BUSY (R165,
step 1); while BUSY the write is discarded and OVERRUN latched (R167); while the reset input is held it
is ignored (R163). The form that names the take and the performance together is the one after the other, and the
take alone while BUSY (R165; the form is the model's, log 1). -/
def Obligations.TakeOfEveryCommand : Prop :=
  ∀ e ∈ hostCommands, ∀ s : State,
    (∀ word : Word, word.extractLsb' 0 8 = e.1 → s.hostWrite 2 word = exec (e.2 .take) s) ∧
    exec (e.2 .take) s = .next (
      if s.chip.resetHeld = true then s
      else if s.command.status = .idle then
        { s with
          command := { s.command with status := .taken e.1, latched := s.command.params } }
      else { s with chip := { s.chip with flags := { s.chip.flags with overrun := true } } }) ∧
    ∀ t : State, exec (e.2 .take) s = .next t →
      exec (e.2 .whole) s = if s.command.status = .idle then exec (e.2 .perform) t else .next t

/-- The completion writes the result words, records OUTCOME and LAST CODE, and makes STATUS IDLE, in
one event (R165, step 3); it changes nothing else. The host then reads them. -/
def Obligations.Completion : Prop :=
  ∀ (s : State) (code : BitVec 8) (outcome : CommandOutcome) (results : ResultWords),
    s.command.status = .performed code outcome results →
    exec .commandUnitCompletion s = .next
      { s with
        command := { s.command with
          status := .idle, lastCode := code, outcome := outcome, results := results } }

/-- A performed command has one of the sixteen outcomes; an outcome other than OK has changed no state
but the command unit's own, and its result words are zero except for OVERLAP and SET FRAME LIMIT
(R169). -/
def Obligations.FailedCommandChangesNothing : Prop :=
  ∀ e ∈ hostCommands, ∀ s : State, s.command.status = .taken e.1 →
    ∃ (t : State) (outcome : CommandOutcome) (results : ResultWords),
      exec (e.2 .perform) s = .next t ∧ t.command.status = .performed e.1 outcome results ∧
      t.command.params = s.command.params ∧ outcome ≠ .none ∧
      (outcome ≠ .ok → t = ends s e.1 outcome results ∧
        (outcome ≠ .overlap → e.1 ≠ 0x72#8 → results = Vector.replicate 4 0#32))

/-- A take whose code is not one of the 25 completes with OUTCOME UNKNOWN: LAST CODE the code as
written, the result words zero, no other block reached, the parameter words unchanged, no OVERRUN
(R168). The write to COMMAND of such a word is that take. -/
def Obligations.UnknownCode : Prop :=
  ∀ (s : State) (word : Word), word.extractLsb' 0 8 ∉ hostCommands.map Prod.fst →
    s.command.status = .idle → s.chip.resetHeld = false →
    ∃ t : State, exec (.unknownCommand word) s = .next t ∧ s.hostWrite 2 word = .next t ∧
      exec .commandUnitCompletion t = .next
        { s with
          command :=
            { status := .idle, lastCode := word.extractLsb' 0 8, outcome := .unknown
              params := s.command.params, latched := s.command.params
              results := Vector.replicate 4 0#32 } }

/-- A write to COMMAND while BUSY is discarded: the command in progress keeps its latched parameters,
its outcome and its results, the code goes unrecorded, and OVERRUN is latched; ignored while the reset
input is held (R167). It is so for every word, whether its code is known or not. -/
def Obligations.BusyWriteDiscarded : Prop :=
  ∀ (s : State) (word : Word),
    (s.command.status ≠ .idle → s.chip.resetHeld = false →
      let overrun : State :=
        { s with chip := { s.chip with flags := { s.chip.flags with overrun := true } } }
      exec (.discardedCommandWrite word) s = .next overrun ∧ s.hostWrite 2 word = .next overrun) ∧
    (s.chip.resetHeld = true →
      exec (.discardedCommandWrite word) s = .next s ∧ s.hostWrite 2 word = .next s)

/-- A write to a parameter word replaces it and nothing else: a read returns it, the latched
parameters of a command in progress stay, and the next take latches it (R166). -/
def Obligations.ParameterWrite : Prop :=
  ∀ (s : State) (k : Fin 6) (word : Word), s.chip.resetHeld = false →
    ∃ t : State, exec (.paramWrite k word) s = .next t ∧
      t = { s with command := { s.command with params := s.command.params.set k word } } ∧
      (∀ number : Fin 32, number.val = 3 + k.val →
        s.hostWrite number word = .next t ∧ t.hostRead number = word) ∧
      t.command.latched = s.command.latched ∧
      ∀ e ∈ hostCommands, s.command.status = .idle →
        ∃ u : State, exec (e.2 .take) t = .next u ∧ u.command.latched[k] = word

/-- A write to a read-only or unused word is ignored, and while the reset input is held every write is
ignored and every read returns zero (R163). The words are named by their offset divided by 4. -/
def Obligations.IgnoredWrites : Prop :=
  (∀ (s : State) (number : Fin 32) (word : Word),
    number.val ≤ 1 ∨ 9 ≤ number.val ∧ number.val ≤ 12 ∨ 15 ≤ number.val →
      exec (.ignoredRegisterWrite number word) s = .next s ∧ s.hostWrite number word = .next s) ∧
  ∀ s : State, s.chip.resetHeld = true →
    (∀ number : Fin 32, s.hostRead number = 0#32) ∧
    (∀ (number : Fin 32) (word : Word), s.hostWrite number word = .next s) ∧
    (∀ (k : Fin 6) (word : Word), exec (.paramWrite k word) s = .next s) ∧
    (∀ word : Word, exec (.eventsAcknowledge word) s = .next s) ∧
    (∀ word : Word, exec (.eventEnableWrite word) s = .next s) ∧
    ∀ word : Word, word.extractLsb' 0 8 ∉ hostCommands.map Prod.fst →
      exec (.unknownCommand word) s = .next s

/-! ## Events (section 11.1) -/

/-- A write to EVENTS clears each latched flag whose bit is written as 1, leaves the flags whose bits
are 0, and has no effect on the level flags; all in one event (R178, with the bits of R171). A write to
EVENT ENABLE replaces the eight enables, and a read returns them in the positions of R171 (R179). -/
def Obligations.EventRegisterWrites : Prop :=
  (∀ (s : State) (word : Word), s.chip.resetHeld = false →
    ∃ t : State, exec (.eventsAcknowledge word) s = .next t ∧ s.hostWrite 13 word = .next t ∧
      t = { s with chip := { s.chip with flags := t.chip.flags } } ∧
      (t.chip.flags.transferEnd = true ↔ s.chip.flags.transferEnd = true ∧ bits word 8 1 = 0) ∧
      (t.chip.flags.storeError = true ↔ s.chip.flags.storeError = true ∧ bits word 9 1 = 0) ∧
      (t.chip.flags.watchNote = true ↔ s.chip.flags.watchNote = true ∧ bits word 10 1 = 0) ∧
      (t.chip.flags.quietReached = true ↔ s.chip.flags.quietReached = true ∧ bits word 11 1 = 0) ∧
      (t.chip.flags.overrun = true ↔ s.chip.flags.overrun = true ∧ bits word 12 1 = 0) ∧
      t.faultsFlag = s.faultsFlag ∧ t.stalledFlag = s.stalledFlag ∧ t.heldFlag = s.heldFlag) ∧
  (∀ (s : State) (word : Word), s.chip.resetHeld = false →
    ∃ t : State, exec (.eventEnableWrite word) s = .next t ∧ s.hostWrite 14 word = .next t ∧
      t = { s with chip := { s.chip with enables := t.chip.enables } } ∧
      t.hostRead 14 = word &&& 0x00001F07#32)

/-- The level flags follow their conditions (R121, R157), and HINT is asserted exactly while a flag is
set whose enable is set (R179): the flags and the enables as the host reads them in EVENTS and EVENT
ENABLE (R171). With every block at its reset values, as while the reset input is held (R184; a law that
every step keeps, WaitingLaws), every flag and every enable is clear and HINT is not asserted (R177,
R179). -/
def Obligations.FlagsAndHint : Prop :=
  ∀ s : State,
    (s.heldAtReset →
      s.faultsFlag = false ∧ s.stalledFlag = false ∧ s.heldFlag = false ∧
      s.chip.flags = ⟨false, false, false, false, false⟩ ∧
      s.chip.enables = ⟨false, false, false, false, false, false, false, false⟩ ∧
      s.hint = false) ∧
    (s.faultsFlag = true ↔ s.faults.records ≠ []) ∧
    (s.stalledFlag = true ↔ s.faults.stalled ≠ []) ∧
    (s.heldFlag = true ↔ ∃ (p : PortId) (r : CurrentRequest) (segs : Segments)
      (holdSet : List WindowId) (which : PageIndex), s.ports[p].burst = .held r segs holdSet which) ∧
    (s.chip.resetHeld = false → (s.hint = true ↔ s.hostRead 13 &&& s.hostRead 14 ≠ 0#32))

/-! ## Formats (sections 10.5 and 10.7) -/

/-- The words of chip control, of the command unit, of the map store and of the engine read by the host,
bit by bit (R171, R173); every bit that the layouts do not name reads zero, and so does every unused word
(R163). The premises are the ranges the spec gives the values. -/
def Obligations.StatusWords : Prop :=
  ∀ s : State, s.chip.resetHeld = false →
    s.hostRead 0 = 0x61600001#32 ∧
    (bits (s.hostRead 1) 0 2 = s.chip.mode.code ∧ bits (s.hostRead 1) 8 2 = s.chip.resetCause.code ∧
      unnamedZero (s.hostRead 1) [(0, 2), (8, 2)]) ∧
    (bits (s.hostRead 2) 0 8 = s.command.lastCode.toNat ∧
      bits (s.hostRead 2) 8 5 = s.command.outcome.code ∧
      bits (s.hostRead 2) 31 1 = bit (decide (s.command.status ≠ .idle)) ∧
      unnamedZero (s.hostRead 2) [(0, 8), (8, 5), (31, 1)]) ∧
    (∀ (k : Fin 6) (number : Fin 32), number.val = 3 + k.val →
      s.hostRead number = s.command.params[k]) ∧
    (∀ (k : Fin 4) (number : Fin 32), number.val = 9 + k.val →
      s.hostRead number = s.command.results[k]) ∧
    (∀ number : Fin 32, 26 ≤ number.val → s.hostRead number = 0#32) ∧
    (bits (s.hostRead 13) 0 1 = bit s.faultsFlag ∧ bits (s.hostRead 13) 1 1 = bit s.stalledFlag ∧
      bits (s.hostRead 13) 2 1 = bit s.heldFlag ∧
      bits (s.hostRead 13) 8 1 = bit s.chip.flags.transferEnd ∧
      bits (s.hostRead 13) 9 1 = bit s.chip.flags.storeError ∧
      bits (s.hostRead 13) 10 1 = bit s.chip.flags.watchNote ∧
      bits (s.hostRead 13) 11 1 = bit s.chip.flags.quietReached ∧
      bits (s.hostRead 13) 12 1 = bit s.chip.flags.overrun ∧
      unnamedZero (s.hostRead 13) [(0, 3), (8, 5)]) ∧
    (bits (s.hostRead 14) 0 1 = bit s.chip.enables.faults ∧
      bits (s.hostRead 14) 1 1 = bit s.chip.enables.stalled ∧
      bits (s.hostRead 14) 2 1 = bit s.chip.enables.held ∧
      bits (s.hostRead 14) 8 1 = bit s.chip.enables.transferEnd ∧
      bits (s.hostRead 14) 9 1 = bit s.chip.enables.storeError ∧
      bits (s.hostRead 14) 10 1 = bit s.chip.enables.watchNote ∧
      bits (s.hostRead 14) 11 1 = bit s.chip.enables.quietReached ∧
      bits (s.hostRead 14) 12 1 = bit s.chip.enables.overrun ∧
      unnamedZero (s.hostRead 14) [(0, 3), (8, 5)]) ∧
    (s.store.errorIndex = none → s.hostRead 15 = 0#32) ∧
    (∀ i ∈ s.store.errorIndex, i < 2048 →
      bits (s.hostRead 15) 0 11 = i ∧ bits (s.hostRead 15) 31 1 = 1 ∧
      unnamedZero (s.hostRead 15) [(0, 11), (31, 1)]) ∧
    (s.engine.outcome.firstPage < 2048 → s.engine.outcome.marksLost ≤ 8 →
      bits (s.hostRead 21) 0 3 = s.engine.outcome.state.code ∧
      bits (s.hostRead 21) 4 2 = (s.engine.outcome.kind.map TransferKind.code).getD 0 ∧
      bits (s.hostRead 21) 6 2 = s.engine.state.code ∧
      bits (s.hostRead 21) 8 4 = s.engine.outcome.context.val ∧
      bits (s.hostRead 21) 12 4 = s.engine.outcome.marksLost ∧
      bits (s.hostRead 21) 16 11 = s.engine.outcome.firstPage ∧
      bits (s.hostRead 21) 31 1 = bit s.engine.outcome.failingAddress.isSome ∧
      unnamedZero (s.hostRead 21) [(0, 3), (4, 23), (31, 1)]) ∧
    (s.engine.outcome.count ≤ 2048 → s.engine.outcome.done ≤ 2048 →
      bits (s.hostRead 22) 0 12 = s.engine.outcome.count ∧
      bits (s.hostRead 22) 16 12 = s.engine.outcome.done ∧
      unnamedZero (s.hostRead 22) [(0, 12), (16, 12)]) ∧
    s.hostRead 23 = s.engine.outcome.failingAddress.getD 0#32 ∧
    ([Mode.running, .quiescing, .quiet].map Mode.code = [0, 1, 2] ∧
      [ResetCause.powerOn, .pin, .soft].map ResetCause.code = [1, 2, 3] ∧
      [OutcomeState.none, .inProgress, .complete, .aborted, .memoryError].map OutcomeState.code =
        [0, 1, 2, 3, 4] ∧
      [TransferKind.load, .dump, .fill].map TransferKind.code = [1, 2, 3] ∧
      (∀ (t : Transfer) (w : Work), EngineState.idle.code = 0 ∧ (EngineState.draining t).code = 1 ∧
        (EngineState.running t w).code = 2) ∧
      [CommandOutcome.none, .ok, .unknown, .badParameter, .notDefined, .defined, .overlap, .range,
        .inUse, .wrongState, .portBusy, .notHeld, .engineBusy, .engineIdle, .notRunning, .notQuiet,
        .queueEmpty].map CommandOutcome.code = List.range 17)

/-- The words of the ports and the fault queue read by the host, bit by bit (R172); every bit that the
layouts do not name reads zero (R163). -/
def Obligations.PortAndFaultWords : Prop :=
  [FaultKind.unbound, .misaligned, .length, .readonly, .bound, .parity, .invalid, .noRead, .noWrite,
    .limit, .watch, .memory].map FaultKind.code = [1, 2, 3, 4, 5, 6, 7, 8, 9, 10, 11, 12] ∧
  (∀ (r : CurrentRequest) (walk : Walk) (segs : Segments) (holdSet : List WindowId) (n : PageIndex),
    [Burst.idle, .opening r, .walking r walk, .fenced r, .held r segs holdSet n, .stalled r,
      .queued r segs, .moving r segs].map Burst.code = [0, 1, 1, 2, 3, 4, 5, 6]) ∧
  ∀ s : State, s.chip.resetHeld = false →
    (∀ p : PortId, bits (s.hostRead 24) (5 * p.val) 3 = s.ports[p].burst.code ∧
      bits (s.hostRead 24) (5 * p.val + 3) 1 = bit (decide (s.ports[p].gate = .admitted)) ∧
      bits (s.hostRead 24) (5 * p.val + 4) 1 = bit s.ports[p].binding.isSome) ∧
    unnamedZero (s.hostRead 24) [(0, 30)] ∧
    (∀ k : Fin 6, bits (s.hostRead 25) (4 * k.val) 4 =
      ((s.faults.stalled[k.val]?).map fun e => e.1.val).getD 15) ∧
    unnamedZero (s.hostRead 25) [(0, 24)] ∧
    (s.faults.records.length ≤ 16 → s.faults.stalled.length ≤ 6 →
      bits (s.hostRead 16) 0 5 = s.faults.records.length ∧
      bits (s.hostRead 16) 8 3 = s.faults.stalled.length ∧
      unnamedZero (s.hostRead 16) [(0, 5), (8, 3)]) ∧
    (s.faults.records = [] →
      s.hostRead 17 = 0#32 ∧ s.hostRead 18 = 0#32 ∧ s.hostRead 19 = 0#32 ∧ s.hostRead 20 = 0#32) ∧
    ∀ (head : QueuedFault) (rest : List QueuedFault), s.faults.records = head :: rest →
      bits (s.hostRead 17) 0 16 = head.seq.toNat ∧
      bits (s.hostRead 17) 16 4 = head.record.kind.code ∧
      bits (s.hostRead 17) 20 3 = head.record.port.val ∧
      bits (s.hostRead 17) 23 1 = bit (decide (head.record.direction = .write)) ∧
      bits (s.hostRead 17) 24 4 = (head.record.context.map Fin.val).getD 0 ∧
      bits (s.hostRead 17) 28 1 = bit head.record.context.isSome ∧
      bits (s.hostRead 17) 29 2 = (head.record.pageIndex.map PageIndex.number).getD 0 ∧
      unnamedZero (s.hostRead 17) [(0, 31)] ∧
      s.hostRead 18 = head.record.address ∧
      bits (s.hostRead 19) 0 7 = head.record.length.toNat ∧
      ((∀ i ∈ head.record.storeIndex, i < 2048) →
        bits (s.hostRead 19) 16 11 = head.record.storeIndex.getD 0 ∧
        bits (s.hostRead 19) 31 1 = bit head.record.storeIndex.isSome ∧
        unnamedZero (s.hostRead 19) [(0, 7), (16, 11), (31, 1)]) ∧
      bits (s.hostRead 20) 0 20 = (head.record.frame.map BitVec.toNat).getD 0 ∧
      bits (s.hostRead 20) 31 1 = bit head.record.frame.isSome ∧
      unnamedZero (s.hostRead 20) [(0, 20), (31, 1)]

/-- The result words of READ CONTEXT, of PROBE, with the image of an entry (R176), of READ PORT and of
READ WINDOW, bit by bit (R175); every result word not shown is zero, and so is every bit that the layouts
do not name. -/
def Obligations.ResultFormats : Prop :=
  ((∀ c : Context, c.base < 2048 → c.pages ≤ 2048 → c.bindCount ≤ 6 →
    bits (contextWords c)[0] 0 1 = bit c.defined ∧ bits (contextWords c)[0] 1 1 = bit c.readOnly ∧
    bits (contextWords c)[0] 4 3 = c.bindCount ∧ bits (contextWords c)[0] 8 2 = c.mark.code ∧
    unnamedZero (contextWords c)[0] [(0, 2), (4, 3), (8, 2)] ∧
    (contextWords c)[1].toNat = c.base ∧ (contextWords c)[2].toNat = c.pages ∧
    (contextWords c)[3] = 0#32) ∧
  ∀ (s : State) (i : Nat), i < 2048 →
    (probeWords i (s.store.entry i) (s.copyHolders i))[0].toNat = i ∧
    bits (imageWord0 (s.store.entry i)) 0 20 = (s.store.entry i).fields.frame.toNat ∧
    bits (imageWord0 (s.store.entry i)) 20 4 = 0 ∧
    bits (imageWord0 (s.store.entry i)) 24 1 = bit (s.store.entry i).fields.valid ∧
    bits (imageWord0 (s.store.entry i)) 25 1 = bit (s.store.entry i).fields.read ∧
    bits (imageWord0 (s.store.entry i)) 26 1 = bit (s.store.entry i).fields.write ∧
    bits (imageWord0 (s.store.entry i)) 27 1 = bit (s.store.entry i).fields.touched ∧
    bits (imageWord0 (s.store.entry i)) 28 1 = bit (s.store.entry i).fields.dirty ∧
    bits (imageWord0 (s.store.entry i)) 29 2 = 0 ∧
    bits (imageWord0 (s.store.entry i)) 31 1 = bit (decide ((s.store.entry i).check = .bad)) ∧
    (probeWords i (s.store.entry i) (s.copyHolders i))[1] = imageWord0 (s.store.entry i) ∧
    (∀ q : PortId, bits (probeWords i (s.store.entry i) (s.copyHolders i))[2] q.val 1 = 1 ↔
      ∃ copy ∈ s.ports[q].lookaside, copy.storeIndex = i) ∧
    unnamedZero (probeWords i (s.store.entry i) (s.copyHolders i))[2] [(0, 6)] ∧
    (probeWords i (s.store.entry i) (s.copyHolders i))[3] = 0#32) ∧
  ((∀ port : Port, port.lookaside.length ≤ 8 → port.burst.holdSet.Nodup →
    bits (portWords port)[0] 0 3 = port.burst.code ∧
    bits (portWords port)[0] 4 1 = bit (decide (port.gate = .admitted)) ∧
    bits (portWords port)[0] 5 1 = bit port.binding.isSome ∧
    bits (portWords port)[0] 8 4 = (port.binding.map Fin.val).getD 0 ∧
    (∀ w : WindowId, bits (portWords port)[0] (12 + w.val) 1 = bit (port.burst.holdSet.contains w)) ∧
    bits (portWords port)[0] 16 4 = port.lookaside.length ∧
    bits (portWords port)[0] 20 1 = bit port.link.waiting.isSome ∧
    bits (portWords port)[0] 21 1 = bit port.burst.request.isSome ∧
    bits (portWords port)[0] 22 1 =
      bit (port.burst.request.any fun r => decide (r.direction = .write)) ∧
    bits (portWords port)[0] 24 7 = (port.burst.request.map fun r => r.length.toNat).getD 0 ∧
    unnamedZero (portWords port)[0] [(0, 3), (4, 2), (8, 15), (24, 7)] ∧
    (portWords port)[1] = (port.burst.request.map CurrentRequest.address).getD 0#32 ∧
    (portWords port)[2] = 0#32 ∧ (portWords port)[3] = 0#32) ∧
  ∀ w : Window, w.low.toNat % 4 = 0 → w.high.toNat % 4 = 0 → w.hitCount ≤ 65535 →
    (∀ h ∈ w.lastHit, h.address.toNat % 4 = 0) →
    (windowWords w)[0].toNat = w.low.toNat + bit w.enabled + 2 * bit (decide (w.action = .hold)) ∧
    (windowWords w)[1].toNat = w.high.toNat + bit w.onRead + 2 * bit w.onWrite ∧
    bits (windowWords w)[2] 0 6 = w.portSet.toNat ∧
    bits (windowWords w)[2] 6 3 = (w.lastHit.map fun h => h.port.val).getD 0 ∧
    bits (windowWords w)[2] 9 7 = (w.lastHit.map fun h => h.length.toNat).getD 0 ∧
    bits (windowWords w)[2] 16 16 = w.hitCount ∧
    (windowWords w)[3].toNat = (w.lastHit.map fun h =>
      h.address.toNat + 1 + 2 * bit (decide (h.direction = .write))).getD 0)

/-! ## Contexts (chapter 2) -/

/-- A DEFINED record's region shares an entry with the run of `pages` entries from `base`. -/
def Sys2Proof.Statements.shares (c : Context) (base pages : Nat) : Prop :=
  c.defined = true ∧ ∃ i : Nat, base ≤ i ∧ i < base + pages ∧ c.base ≤ i ∧ i < c.base + c.pages

/-- DEFINE CONTEXT: the five checks of R22 in order, then the record DEFINED with BIND COUNT 0 and mark
NONE. The premise of the last check is the law of R20, kept by every step (ContextTableLaws): a DEFINED
record has at least one page. -/
def Obligations.DefineContext : Prop :=
  ∀ s : State, s.command.status = .taken 0x10#8 →
    let p := s.command.latched
    ∃ t : State, exec (.defineContext .perform) s = .next t ∧
      (15 < p[0].toNat → t = fails s 0x10#8 .badParameter) ∧
      ∀ c : ContextId, p[0].toNat = c.val →
        (1 < p[3].toNat → t = fails s 0x10#8 .badParameter) ∧
        (p[3].toNat ≤ 1 → s.contexts[c].defined = true → t = fails s 0x10#8 .defined) ∧
        (p[3].toNat ≤ 1 → s.contexts[c].defined = false →
          (p[2].toNat = 0 ∨ 2048 < p[1].toNat + p[2].toNat → t = fails s 0x10#8 .range) ∧
          (0 < p[2].toNat → p[1].toNat + p[2].toNat ≤ 2048 → (∀ d : ContextId, s.contexts[d].lawful) →
            (∀ d : ContextId, shares s.contexts[d] p[1].toNat p[2].toNat →
              (∀ e : ContextId, e < d → ¬ shares s.contexts[e] p[1].toNat p[2].toNat) →
              t = ends s 0x10#8 .overlap #v[BitVec.ofNat 32 d.val, 0#32, 0#32, 0#32]) ∧
            ((∀ d : ContextId, ¬ shares s.contexts[d] p[1].toNat p[2].toNat) →
              t = succeeds (putContext s c
                { defined := true, base := p[1].toNat, pages := p[2].toNat,
                  readOnly := decide (p[3].toNat = 1), bindCount := 0, mark := .none }) 0x10#8)))

/-- DELETE CONTEXT: the three checks of R24 in order, then the record FREE with the FREE values of
R20; no store entry changes. -/
def Obligations.DeleteContext : Prop :=
  ∀ s : State, s.command.status = .taken 0x11#8 →
    let p := s.command.latched
    exec (.deleteContext .perform) s = .next (
      if h : p[0].toNat < 16 then
        if s.contexts[p[0].toNat].defined = false then fails s 0x11#8 .notDefined
        else if 0 < s.contexts[p[0].toNat].bindCount ∨ s.contexts[p[0].toNat].mark ≠ .none then
          fails s 0x11#8 .inUse
        else succeeds (putContext s ⟨p[0].toNat, h⟩ ⟨false, 0, 0, false, 0, .none⟩) 0x11#8
      else fails s 0x11#8 .badParameter)

/-- READ CONTEXT, READ PORT and READ WINDOW: a number out of range gives BAD_PARAMETER; otherwise OK
and the record in the result words, nothing changed (R25, R50, R152). The packing is stated in
ResultFormats. -/
def Obligations.ReadCommands : Prop :=
  ∀ s : State,
    let p := s.command.latched
    (s.command.status = .taken 0x12#8 →
      exec (.readContext .perform) s = .next (
        if h : p[0].toNat < 16 then ends s 0x12#8 .ok (contextWords s.contexts[p[0].toNat])
        else fails s 0x12#8 .badParameter)) ∧
    (s.command.status = .taken 0x34#8 →
      exec (.readPort .perform) s = .next (
        if h : p[0].toNat < 6 then ends s 0x34#8 .ok (portWords s.ports[p[0].toNat])
        else fails s 0x34#8 .badParameter)) ∧
    (s.command.status = .taken 0x61#8 →
      exec (.readWindow .perform) s = .next (
        if h : p[0].toNat < 4 then ends s 0x61#8 .ok (windowWords s.windows[p[0].toNat])
        else fails s 0x61#8 .badParameter))

/-! ## The map store (chapter 1) -/

/-- WRITE ENTRY and TEST ENTRY: the checks of R14 and of R15 in order, then one write access with the
six fields given, check GOOD for the one and BAD for the other (R15, R16, R174; the access is stated in
StoreWrite). PROBE: the checks of R14 in order, then one plain read; the index, the fields, the check
and the copy holders are returned (R17; the read is stated in ReadAccesses). -/
def Obligations.EntryCommands : Prop :=
  (∀ e ∈ [(0x20#8, Instr.writeEntry, Check.good), (0x21#8, Instr.testEntry, Check.bad)],
    ∀ s : State, s.command.status = .taken e.1 →
      let p := s.command.latched
      exec (e.2.1 .perform) s = .next (
        if h : p[0].toNat < 16 then
          if s.contexts[p[0].toNat].defined = false then fails s e.1 .notDefined
          else if s.contexts[p[0].toNat].pages ≤ p[1].toNat then fails s e.1 .range
          else if 1048575 < p[2].toNat then fails s e.1 .badParameter
          else
            succeeds (s.storeWrite (s.contexts[p[0].toNat].base + p[1].toNat)
              { frame := BitVec.ofNat 20 p[2].toNat, valid := p[3].getLsbD 24, read := p[3].getLsbD 25,
                write := p[3].getLsbD 26, touched := p[3].getLsbD 27, dirty := p[3].getLsbD 28 }
              e.2.2) e.1
        else fails s e.1 .badParameter)) ∧
  (∀ s : State, s.command.status = .taken 0x22#8 →
    let p := s.command.latched
    exec (.probe .perform) s = .next (
      if h : p[0].toNat < 16 then
        if s.contexts[p[0].toNat].defined = false then fails s 0x22#8 .notDefined
        else if s.contexts[p[0].toNat].pages ≤ p[1].toNat then fails s 0x22#8 .range
        else
          ends (s.plainRead (s.contexts[p[0].toNat].base + p[1].toNat)) 0x22#8 .ok
            (probeWords (s.contexts[p[0].toNat].base + p[1].toNat)
              (s.store.entry (s.contexts[p[0].toNat].base + p[1].toNat))
              (s.copyHolders (s.contexts[p[0].toNat].base + p[1].toNat)))
      else fails s 0x22#8 .badParameter))

/-- A write replaces the six fields and the check and removes every copy of the entry from every port;
the old check is not read, and nothing else changes (R7). -/
def Obligations.StoreWrite : Prop :=
  ∀ (s : State) (i : Nat) (fields : Fields) (check : Check), i < 2048 →
    let t := s.storeWrite i fields check
    t.store.entry i = ⟨fields, check⟩ ∧ (∀ j : Nat, j ≠ i → t.store.entry j = s.store.entry j) ∧
    t.store.errorIndex = s.store.errorIndex ∧
    (∀ q : PortId, t.ports[q] = { s.ports[q] with
      lookaside := s.ports[q].lookaside.filter fun copy => copy.storeIndex ≠ i }) ∧
    t = { s with store := t.store, ports := t.ports }

/-- A plain read changes nothing; one that finds the check BAD sets STORE_ERROR and records the index
in STORE ERROR INDEX, and no entry, copy or port changes (R4, R11, R12). A read-and-clear of a GOOD
entry clears TOUCHED and DIRTY; if either was set, every copy of the entry is removed; if both were
clear, nothing changes; of a BAD entry it clears nothing and makes the discovery of R11 (R8). -/
def Obligations.ReadAccesses : Prop :=
  (∀ (s : State) (i : Nat),
    ((s.store.entry i).check = .good → s.plainRead i = s) ∧
    ((s.store.entry i).check = .bad → s.plainRead i =
      { s with
        store := { s.store with errorIndex := some i }
        chip := { s.chip with flags := { s.chip.flags with storeError := true } } })) ∧
  (∀ (s : State) (i : Nat), i < 2048 →
    let e := s.store.entry i
    let t := s.readAndClear i
    (e.check = .bad → t =
      { s with
        store := { s.store with errorIndex := some i }
        chip := { s.chip with flags := { s.chip.flags with storeError := true } } }) ∧
    (e.check = .good → e.fields.touched = false → e.fields.dirty = false → t = s) ∧
    (e.check = .good → e.fields.touched = true ∨ e.fields.dirty = true →
      t.store.entry i = ⟨{ e.fields with touched := false, dirty := false }, .good⟩ ∧
      (∀ j : Nat, j ≠ i → t.store.entry j = s.store.entry j) ∧
      t.store.errorIndex = s.store.errorIndex ∧
      (∀ q : PortId, t.ports[q] = { s.ports[q] with
        lookaside := s.ports[q].lookaside.filter fun copy => copy.storeIndex ≠ i }) ∧
      t = { s with store := t.store, ports := t.ports }))

/-- The four tests of a read-and-mark all pass (R5). -/
def Sys2Proof.Statements.passes (e : MapEntry) (direction : Direction) (limit : Nat) : Prop :=
  e.check = .good ∧ e.fields.valid = true ∧ (direction = .read → e.fields.read = true) ∧
    (direction = .write → e.fields.write = true) ∧ e.fields.frame.toNat < limit

/-- A read-and-mark: when the four tests pass TOUCHED is set, and DIRTY for a WRITE; otherwise the
entry is unchanged; a BAD check makes the discovery of R11 (R5). When the entry changes, every other
port's copy of it is removed; the requesting port's copy is placed at the front of its list whenever
the entry is VALID with a GOOD check, the last of 8 others dropped; otherwise no list changes (R6,
R87). -/
def Obligations.ReadAndMark : Prop :=
  ∀ (s : State) (p : PortId) (i page : Nat) (direction : Direction), i < 2048 →
    let e := s.store.entry i
    let marked : Fields :=
      { e.fields with touched := true, dirty := e.fields.dirty || decide (direction = .write) }
    let t := s.readAndMark p i page direction
    (passes e direction s.chip.frameLimit → t.store.entry i = ⟨marked, .good⟩) ∧
    (¬ passes e direction s.chip.frameLimit → t.store.entry i = e) ∧
    (∀ j : Nat, j ≠ i → t.store.entry j = s.store.entry j) ∧
    (e.check = .bad → t.store.errorIndex = some i ∧ t.chip.flags.storeError = true) ∧
    (e.check = .good → t.store.errorIndex = s.store.errorIndex ∧ t.chip = s.chip) ∧
    (e.check = .good → e.fields.valid = true → t.ports[p].lookaside =
      (⟨page, i, (t.store.entry i).fields⟩ ::
        s.ports[p].lookaside.filter fun copy => copy.storeIndex ≠ i).take 8) ∧
    (e.check = .bad ∨ e.fields.valid = false → t.ports = s.ports) ∧
    (∀ q : PortId, q ≠ p →
      (t.store.entry i ≠ e → t.ports[q].lookaside =
        s.ports[q].lookaside.filter fun copy => copy.storeIndex ≠ i) ∧
      (t.store.entry i = e → t.ports[q].lookaside = s.ports[q].lookaside)) ∧
    (∀ q : PortId, t.ports[q] = { s.ports[q] with lookaside := t.ports[q].lookaside }) ∧
    t = { s with
      store := t.store, ports := t.ports
      chip := { s.chip with flags := { s.chip.flags with storeError := t.chip.flags.storeError } } }

/-! ## Ports and links (chapter 3, R91, section 9.5) -/

/-- BIND PORT: the five checks of R46 in order, then the port BOUND with the context number and BIND
COUNT raised by 1 (R26); gate, lists and every other record unchanged. RELEASE PORT: the three checks of
R47 in order, then the port DETACHED, its list emptied, and the BIND COUNT of its context lowered by 1
(R26); the gate unchanged. -/
def Obligations.BindAndRelease : Prop :=
  (∀ s : State, s.command.status = .taken 0x30#8 →
    let p := s.command.latched
    exec (.bindPort .perform) s = .next (
      if h : p[0].toNat < 6 then
        if k : p[1].toNat < 16 then
          if s.ports[p[0].toNat].binding ≠ none then fails s 0x30#8 .wrongState
          else if s.ports[p[0].toNat].burst ≠ .idle then fails s 0x30#8 .portBusy
          else if s.contexts[p[1].toNat].defined = false then fails s 0x30#8 .notDefined
          else
            succeeds (putContext (putPort s ⟨p[0].toNat, h⟩
                { s.ports[p[0].toNat] with binding := some ⟨p[1].toNat, k⟩ }) ⟨p[1].toNat, k⟩
              { s.contexts[p[1].toNat] with bindCount := s.contexts[p[1].toNat].bindCount + 1 })
              0x30#8
        else fails s 0x30#8 .badParameter
      else fails s 0x30#8 .badParameter)) ∧
  (∀ s : State, s.command.status = .taken 0x31#8 →
    let p := s.command.latched
    (5 < p[0].toNat → exec (.releasePort .perform) s = .next (fails s 0x31#8 .badParameter)) ∧
    ∀ q : PortId, p[0].toNat = q.val →
      (s.ports[q].binding = none →
        exec (.releasePort .perform) s = .next (fails s 0x31#8 .wrongState)) ∧
      ∀ c : ContextId, s.ports[q].binding = some c →
        exec (.releasePort .perform) s = .next (
          if s.ports[q].burst ≠ .idle then fails s 0x31#8 .portBusy
          else
            succeeds (putContext
              (putPort s q { s.ports[q] with binding := none, lookaside := [] }) c
              { s.contexts[c] with bindCount := s.contexts[c].bindCount - 1 }) 0x31#8))

/-- SUSPEND PORT, ADMIT PORT and FLUSH PORT: a number above 5 gives BAD_PARAMETER; otherwise OK in
every state. SUSPEND and ADMIT set the gate, and ADMIT takes a waiting request when READY then holds
(R49, R36); FLUSH empties the port's list (R91). Nothing else changes. -/
def Obligations.GateAndFlush : Prop :=
  ∀ s : State,
    let p := s.command.latched
    (s.command.status = .taken 0x32#8 →
      exec (.suspendPort .perform) s = .next (
        if h : p[0].toNat < 6 then
          succeeds (putPort s ⟨p[0].toNat, h⟩ { s.ports[p[0].toNat] with gate := .suspended }) 0x32#8
        else fails s 0x32#8 .badParameter)) ∧
    (s.command.status = .taken 0x33#8 →
      exec (.admitPort .perform) s = .next (
        if h : p[0].toNat < 6 then
          succeeds (State.tryTake (putPort s ⟨p[0].toNat, h⟩
            { s.ports[p[0].toNat] with gate := .admitted }) ⟨p[0].toNat, h⟩) 0x33#8
        else fails s 0x33#8 .badParameter)) ∧
    (s.command.status = .taken 0x35#8 →
      exec (.flushPort .perform) s = .next (
        if h : p[0].toNat < 6 then
          succeeds (putPort s ⟨p[0].toNat, h⟩ { s.ports[p[0].toNat] with lookaside := [] }) 0x35#8
        else fails s 0x35#8 .badParameter))

/-- RESUME HELD and CANCEL HELD: BAD_PARAMETER above port 5, NOT_HELD on a port that is not HELD.
RESUME HELD makes the burst QUEUED with its segments and begins its request on the memory port (R158);
CANCEL HELD decides fault WATCH with the items kept with the WATCH segment (R159). -/
def Obligations.HeldCommands : Prop :=
  ∀ s : State,
    let p := s.command.latched
    (s.command.status = .taken 0x36#8 →
      (5 < p[0].toNat → exec (.resumeHeld .perform) s = .next (fails s 0x36#8 .badParameter)) ∧
      ∀ q : PortId, p[0].toNat = q.val →
        (s.ports[q].burst.isHeld = false →
          exec (.resumeHeld .perform) s = .next (fails s 0x36#8 .notHeld)) ∧
        ∀ (r : CurrentRequest) (segs : Segments) (holdSet : List WindowId) (which : PageIndex),
          s.ports[q].burst = .held r segs holdSet which →
          exec (.resumeHeld .perform) s = .next (succeeds
            (State.grant (putPort s q { s.ports[q] with burst := .queued r segs })) 0x36#8)) ∧
    (s.command.status = .taken 0x37#8 →
      (5 < p[0].toNat → exec (.cancelHeld .perform) s = .next (fails s 0x37#8 .badParameter)) ∧
      ∀ q : PortId, p[0].toNat = q.val →
        (s.ports[q].burst.isHeld = false →
          exec (.cancelHeld .perform) s = .next (fails s 0x37#8 .notHeld)) ∧
        ∀ (r : CurrentRequest) (segs : Segments) (holdSet : List WindowId) (which : PageIndex)
          (seg : Segment), s.ports[q].burst = .held r segs holdSet which →
          (which = .one ∧ seg = segs.first ∨ which = .two ∧ segs.second = some seg) →
          exec (.cancelHeld .perform) s = .next (succeeds
            (s.decideFault q r
              { kind := .watch, port := q, context := s.ports[q].binding, direction := r.direction,
                address := r.address, length := r.length, pageIndex := some seg.pageIndex,
                storeIndex := some seg.storeIndex, frame := some seg.frame }) 0x37#8))

/-- The port that takes a request: the current request as presented, LOOKUP with PHASE OPENING, the
link free, and the buffer written with the data of a WRITE of 1 to 64 words (R38, R54). -/
def Sys2Proof.Statements.taking (port : Port) (r : Request) : Port :=
  { port with
    burst := .opening ⟨r.direction, r.address, r.length⟩
    buffer := if r.direction = .write ∧ r.length.toNat ≤ 64 then writeWords port.buffer 0 r.data
      else port.buffer
    link := { port.link with waiting := none } }

/-- The port shows READY: ADMITTED, IDLE, RUNNING, and the reset input released (R35). -/
def Sys2Proof.Statements.showsReady (s : State) (p : PortId) : Prop :=
  s.ports[p].gate = .admitted ∧ s.ports[p].burst = .idle ∧ s.chip.mode = .running ∧
    s.chip.resetHeld = false

/-- A request presented on a link that holds none is taken at once when the port shows READY, and
otherwise waits (R36, R38); a withdrawal leaves the link without a request and changes nothing else
(R37). READY holds exactly under the three conditions of R35. The words of a WRITE stand in the buffer
from the first position on, in order, and the positions behind them keep what they held (R38). -/
def Obligations.RequestOnLink : Prop :=
  (∀ (s : State) (p : PortId),
    (s.ready p = true ↔ showsReady s p) ∧
    (∀ r : Request, (r.direction = .read → r.data = []) →
      (r.direction = .write → r.data.length = r.length.toNat) → s.ports[p].link.waiting = none →
      (showsReady s p →
        exec (.requestPresented p r) s = .next (putPort s p (taking s.ports[p] r))) ∧
      (¬ showsReady s p →
        exec (.requestPresented p r) s = .next (putPort s p
          { s.ports[p] with link := { s.ports[p].link with waiting := some r } }))) ∧
    exec (.requestWithdrawn p) s = .next (putPort s p
      { s.ports[p] with link := { s.ports[p].link with waiting := none } })) ∧
  (∀ (buffer : Vector Word 64) (pos : Nat) (words : List Word), pos + words.length ≤ 64 →
    readWords (writeWords buffer pos words) pos words.length = words ∧
    (∀ (k : Nat) (h : k < 64), k < pos ∨ pos + words.length ≤ k →
      (writeWords buffer pos words)[k] = buffer[k]))

/-- An answer returns the port to IDLE with one message more on its link (the record of messages is the
model's, log 6), and a request waiting there is taken in the same event when READY then holds (R40,
R36); nothing else changes. The same take is what ADMIT PORT and WAKE make. -/
def Obligations.AnswerAndTake : Prop :=
  ∀ (s : State) (p : PortId),
    (∀ a : LinkAnswer, s.answer p a = State.tryTake (putPort s p
      { s.ports[p] with
        burst := .idle
        link := { s.ports[p].link with answers := s.ports[p].link.answers ++ [a] } }) p) ∧
    (∀ r : Request, s.ports[p].link.waiting = some r → showsReady s p →
      s.tryTake p = putPort s p (taking s.ports[p] r)) ∧
    (s.ports[p].link.waiting = none ∨ ¬ showsReady s p → s.tryTake p = s)

/-! ## The fault queue (chapter 7) -/

/-- The append-or-stall rule (R115). With fewer than 16 records the record is appended at the tail with
the next SEQ, the counter advances, and the port answers REFUSED with the record's KIND and goes to IDLE,
READY being re-evaluated: a request waiting on its link is taken when READY then holds. With 16 the port
goes to STALLED at the tail of the stall list with its record, and no answer is sent. Nothing else
changes, but that in the same event a drain may end and QUIET may be reached (R131, R182), as
DrainAndQuiet states. -/
def Obligations.AppendOrStall : Prop :=
  ∀ (s : State) (p : PortId) (r : CurrentRequest) (record : FaultRecord),
    ∃ (faults : FaultQueue) (port : Port),
      s.decideFault p r record =
        State.settle { s with faults := faults, ports := s.ports.set p port } ∧
      (s.faults.records.length < 16 →
        let answered : Port := { s.ports[p] with
          burst := .idle
          link := { s.ports[p].link with
            answers := s.ports[p].link.answers ++ [.refused (.fault record.kind)] } }
        faults =
          { records := s.faults.records ++ [⟨s.faults.counter, record⟩]
            stalled := s.faults.stalled, counter := s.faults.counter + 1#16 } ∧
        (∀ q : Request, s.ports[p].link.waiting = some q → s.ports[p].gate = .admitted →
          s.chip.mode = .running → s.chip.resetHeld = false → port = taking answered q) ∧
        (s.ports[p].link.waiting = none ∨ s.ports[p].gate = .suspended ∨ s.chip.mode ≠ .running ∨
          s.chip.resetHeld = true → port = answered)) ∧
      (16 ≤ s.faults.records.length →
        faults =
          { records := s.faults.records, stalled := s.faults.stalled ++ [(p, record)]
            counter := s.faults.counter } ∧
        port = { s.ports[p] with burst := .stalled r })

/-- POP FAULT (R118): QUEUE_EMPTY with an empty queue; otherwise the head is removed and returned, and
with a stalled port its record is appended with the next SEQ, the port leaves the list, answers
REFUSED and goes to IDLE, in the same event (R119). -/
def Obligations.PopFault : Prop :=
  ∀ s : State, s.command.status = .taken 0x40#8 →
    (s.faults.records = [] → exec (.popFault .perform) s = .next (fails s 0x40#8 .queueEmpty)) ∧
    ∀ (head : QueuedFault) (rest : List QueuedFault), s.faults.records = head :: rest →
      (s.faults.stalled = [] →
        exec (.popFault .perform) s = .next (ends
          { s with faults := { s.faults with records := rest } } 0x40#8 .ok (faultWords head))) ∧
      ∀ (q : PortId) (record : FaultRecord) (others : List (PortId × FaultRecord)),
        s.faults.stalled = (q, record) :: others →
        exec (.popFault .perform) s = .next (ends
          (State.settle (State.answer
            { s with
              faults :=
                { records := rest ++ [⟨s.faults.counter, record⟩], stalled := others
                  counter := s.faults.counter + 1#16 } } q (.refused (.fault record.kind))))
          0x40#8 .ok (faultWords head))

/-! ## Translating a burst (chapter 4) -/

/-- The page of a word's address, and the page of a burst's final word (R61). -/
abbrev Sys2Proof.Statements.pageOf (r : CurrentRequest) : Nat := r.address.toNat / 4096

/-- The page split and the bound check of page 1 (R61 to R64): fault BOUND with PAGE INDEX 1 when the
burst would pass the top of the logical space or its first page lies at or above PAGES; otherwise the
walk begins at page 1 of one or two. -/
def Sys2Proof.Statements.split (s : State) (p : PortId) (c : ContextId) (r : CurrentRequest) :
    State :=
  if 4294967296 < r.address.toNat + 4 * r.length.toNat ∨ s.contexts[c].pages ≤ pageOf r then
    s.decideFault p r
      { kind := .bound, port := p, context := some c, direction := r.direction,
        address := r.address, length := r.length, pageIndex := some .one, storeIndex := none,
        frame := none }
  else
    putPort s p { s.ports[p] with
      burst := .walking r
        { pageCount :=
            if (r.address.toNat + 4 * (r.length.toNat - 1)) / 4096 = pageOf r then .one else .two
          currentPage := .one, results := [] } }

/-- The record of a fault that the opening event decides before the split: no page, no store index, no
frame (R78). -/
def Sys2Proof.Statements.earlyFault (kind : FaultKind) (p : PortId) (context : Option ContextId)
    (r : CurrentRequest) : FaultRecord :=
  { kind := kind, port := p, context := context, direction := r.direction, address := r.address,
    length := r.length, pageIndex := none, storeIndex := none, frame := none }

/-- The opening event of a burst: UNBOUND on a DETACHED port (R56); else MISALIGNED, LENGTH (R57),
READONLY (R58), the fence check (R59), and the page split with the bound check of page 1 (R61, R62,
R64), in that order. The resumption event of a FENCED burst reads the mark afresh: FENCED leaves it
where it is, otherwise it returns to LOOKUP with the page split; the checks of the opening event are not
made again (R60). -/
def Obligations.OpeningAndResumption : Prop :=
  (∀ (s : State) (p : PortId) (r : CurrentRequest), s.ports[p].burst = .opening r →
    (s.ports[p].binding = none →
      exec (.openingEvent p) s = .next (s.decideFault p r (earlyFault .unbound p none r))) ∧
    ∀ c : ContextId, s.ports[p].binding = some c →
      exec (.openingEvent p) s = .next (
        if r.address.toNat % 4 ≠ 0 then s.decideFault p r (earlyFault .misaligned p (some c) r)
        else if r.length.toNat = 0 ∨ 64 < r.length.toNat then
          s.decideFault p r (earlyFault .length p (some c) r)
        else if r.direction = .write ∧ s.contexts[c].readOnly = true then
          s.decideFault p r (earlyFault .readonly p (some c) r)
        else if s.contexts[c].mark = .fenced then
          State.settle (putPort s p { s.ports[p] with burst := .fenced r })
        else split s p c r)) ∧
  (∀ (s : State) (p : PortId) (r : CurrentRequest) (c : ContextId),
    s.ports[p].burst = .fenced r → s.ports[p].binding = some c →
    exec (.resumptionEvent p) s = .next (
      if s.contexts[c].mark = .fenced then s else split s p c r))

/-- What a fault decided by the tests of a page carries (R78). -/
def Sys2Proof.Statements.pageFaultRecord (kind : FaultKind) (p : PortId) (c : ContextId)
    (r : CurrentRequest) (which : PageIndex) (i : Nat) (frame : Option FrameNumber) : FaultRecord :=
  { kind := kind, port := p, context := some c, direction := r.direction, address := r.address,
    length := r.length, pageIndex := some which, storeIndex := some i, frame := frame }

/-- The lookup of a page at a state `after` its access, with the entry `e` found: the tests of R67 in
order, each with its fault record (R78); on a pass of page 1 of two the bound check of page 2 (R63,
R64), otherwise the segments and the watch compare (R75, R76). -/
def Sys2Proof.Statements.tested (after : State) (e : MapEntry) (p : PortId) (c : ContextId)
    (r : CurrentRequest) (walk : Walk) (i page words limit : Nat) : State :=
  let fault (kind : FaultKind) (frame : Option FrameNumber) : State :=
    after.decideFault p r (pageFaultRecord kind p c r walk.currentPage i frame)
  let result : PageResult := ⟨page, i, e.fields.frame, words⟩
  let offset := r.address.toNat % 4096
  let segment (which : PageIndex) (start : Nat) (found : PageResult) : Segment :=
    ⟨BitVec.ofNat 32 (found.frame.toNat * 4096 + start), found.words, which, found.storeIndex,
      found.frame⟩
  if e.check = .bad then fault .parity none
  else if e.fields.valid = false then fault .invalid none
  else if r.direction = .read ∧ e.fields.read = false then fault .noRead (some e.fields.frame)
  else if r.direction = .write ∧ e.fields.write = false then fault .noWrite (some e.fields.frame)
  else if limit ≤ e.fields.frame.toNat then fault .limit (some e.fields.frame)
  else if walk.currentPage = .one ∧ walk.pageCount = .two then
    if after.contexts[c].pages ≤ page + 1 then
      after.decideFault p r
        { kind := .bound, port := p, context := some c, direction := r.direction,
          address := r.address, length := r.length, pageIndex := some .two, storeIndex := none,
          frame := none }
    else
      putPort after p { after.ports[p] with
        burst := .walking r { walk with currentPage := .two, results := [result] } }
  else
    after.watchCompare p r (match walk.results with
      | first :: _ => ⟨segment .one offset first, some (segment .two 0 result)⟩
      | [] => ⟨segment .one offset result, none⟩)

/-- The page lookup (R65, R66): a copy of the page in the port's list that carries the marks the burst
requires is a hit, moves to the front and is tested; otherwise the store makes one read-and-mark, and
the entry as read is tested. The tests and what follows are `tested`. -/
def Obligations.PageLookup : Prop :=
  ∀ (s : State) (p : PortId) (c : ContextId) (r : CurrentRequest) (walk : Walk),
    s.ports[p].burst = .walking r walk → s.ports[p].binding = some c →
    let page := if walk.currentPage = .one then pageOf r else pageOf r + 1
    let i := s.contexts[c].base + page
    let inPageOne := min r.length.toNat ((4096 - r.address.toNat % 4096) / 4)
    let words := if walk.currentPage = .one then inPageOne else r.length.toNat - inPageOne
    let serves (copy : Copy) : Prop := copy.page = page ∧ copy.fields.touched = true ∧
      (r.direction = .write → copy.fields.dirty = true)
    (∀ (front : List Copy) (copy : Copy) (back : List Copy),
      s.ports[p].lookaside = front ++ copy :: back → serves copy →
      (∀ other ∈ front ++ back, other.page ≠ page) →
      exec (.pageLookup p) s = .next
        (tested (putPort s p { s.ports[p] with lookaside := copy :: (front ++ back) })
          ⟨copy.fields, .good⟩ p c r walk i page words s.chip.frameLimit)) ∧
    ((∀ copy ∈ s.ports[p].lookaside, ¬ serves copy) →
      exec (.pageLookup p) s = .next
        (tested (s.readAndMark p i page r.direction) (s.store.entry i) p c r walk i page words
          s.chip.frameLimit))

/-! ## The watch compare (chapter 9) -/

/-- A word of the segment lies in the window's range (R154). -/
def Sys2Proof.Statements.inRange (w : Window) (seg : Segment) : Prop :=
  seg.start.toNat ≤ w.high.toNat ∧ w.low.toNat ≤ seg.start.toNat + 4 * (seg.words - 1)

/-- The window matches the burst: ENABLED, the direction, the port, and a word of a segment (R154). -/
def Sys2Proof.Statements.hits (w : Window) (p : PortId) (direction : Direction) (segs : Segments) :
    Prop :=
  w.enabled = true ∧ (direction = .read → w.onRead = true) ∧ (direction = .write → w.onWrite = true) ∧
    w.portSet.getLsbD p.val = true ∧
    (inRange w segs.first ∨ ∃ second ∈ segs.second, inRange w second)

/-- The watch compare (R154 to R156): each matching window counts the burst and records it as its LAST
HIT, with the larger of LOW and the start of the matched segment; a burst that a HOLD window matches
goes to HELD with the matching HOLD windows and the lowest-numbered segment they matched; any other
goes to QUEUED and begins its request, and latches WATCH_NOTE if a window matched. -/
def Obligations.WatchCompare : Prop :=
  ∀ (s : State) (p : PortId) (r : CurrentRequest) (segs : Segments),
    ∃ windows : Vector Window 4,
      (∀ w : WindowId,
        (¬ hits s.windows[w] p r.direction segs → windows[w] = s.windows[w]) ∧
        (hits s.windows[w] p r.direction segs → ∃ seg : Segment,
          (inRange s.windows[w] segs.first → seg = segs.first) ∧
          (¬ inRange s.windows[w] segs.first → segs.second = some seg) ∧
          windows[w] = { s.windows[w] with
            hitCount := min 65535 (s.windows[w].hitCount + 1)
            lastHit := some ⟨p, BitVec.ofNat 32 (max s.windows[w].low.toNat seg.start.toNat),
              r.direction, r.length⟩ })) ∧
      ((∀ w : WindowId, hits s.windows[w] p r.direction segs → s.windows[w].action = .note) →
        ∃ note : Bool,
          (note = true ↔ s.chip.flags.watchNote = true ∨
            ∃ w : WindowId, hits s.windows[w] p r.direction segs) ∧
          s.watchCompare p r segs = State.grant
            { s with
              windows := windows
              chip := { s.chip with flags := { s.chip.flags with watchNote := note } }
              ports := s.ports.set p { s.ports[p] with burst := .queued r segs } }) ∧
      ((∃ w : WindowId, hits s.windows[w] p r.direction segs ∧ s.windows[w].action = .hold) →
        ∃ (holdSet : List WindowId) (which : PageIndex),
          holdSet.Pairwise (· < ·) ∧
          (∀ w : WindowId, w ∈ holdSet ↔
            hits s.windows[w] p r.direction segs ∧ s.windows[w].action = .hold) ∧
          (which = .one ↔ ∃ w ∈ holdSet, inRange s.windows[w] segs.first) ∧
          s.watchCompare p r segs =
            { s with
              windows := windows
              ports := s.ports.set p { s.ports[p] with burst := .held r segs holdSet which } })

/-- SET WINDOW: BAD_PARAMETER on any of the seven checks of R151, with no window changed; otherwise the
configuration taken from the parameters (R174), HIT COUNT 0 and LAST HIT absent. -/
def Obligations.SetWindow : Prop :=
  ∀ s : State, s.command.status = .taken 0x60#8 →
    let p := s.command.latched
    exec (.setWindow .perform) s = .next (
      if h : p[0].toNat < 4 then
        if (bits p[3] 0 1 = 0 ∧ bits p[3] 1 1 = 0) ∨ 1 < p[4].toNat ∨ 1 < p[5].toNat ∨
            bits p[3] 14 2 ≠ 0 ∨ p[1].toNat % 4 ≠ 0 ∨ p[2].toNat % 4 ≠ 0 ∨
            p[2].toNat < p[1].toNat then fails s 0x60#8 .badParameter
        else
          succeeds { s with
            windows := s.windows.set p[0].toNat
              { enabled := decide (p[5].toNat = 1), low := p[1], high := p[2],
                onRead := decide (bits p[3] 0 1 = 1), onWrite := decide (bits p[3] 1 1 = 1),
                portSet := BitVec.ofNat 6 (bits p[3] 8 6),
                action := if p[4].toNat = 1 then .hold else .note, hitCount := 0,
                lastHit := none } } 0x60#8
      else fails s 0x60#8 .badParameter)

/-! ## The memory port (chapter 6) -/

/-- A requester requests: a port while QUEUED, the engine while its chunk is REQUESTING (R99). -/
def Sys2Proof.Statements.asks (s : State) : Requester → Prop
  | .port p => ∃ r segs, s.ports[p].burst = .queued r segs
  | .engine => ∃ t w, s.engine.state = .running t w ∧ w.stage = some .requesting

/-- The requester that follows one in the cyclic order (R100). -/
def Sys2Proof.Statements.after (r : Requester) : Requester :=
  match r with
  | .port 0 => .port 1
  | .port 1 => .port 2
  | .port 2 => .port 3
  | .port 3 => .port 4
  | .port 4 => .port 5
  | .port 5 => .engine
  | .engine => .port 0

/-- The grant (R100, R102, R103): none while HOLDER is not FREE or no requester requests; otherwise to
the requester that is examined first from POINTER on. In the one event HOLDER becomes the winner,
POINTER the requester after it, and the winner's first transaction is issued: segment 1 of a port's
burst, which becomes MOVING, or the engine's chunk, which becomes IN FLIGHT. The words of a write stand
beside the transaction (the model's field, log 9). -/
def Obligations.Grant : Prop :=
  ∀ s : State,
    (s.memory.holder ≠ .free → s.grant = s) ∧ ((∀ r : Requester, ¬ asks s r) → s.grant = s) ∧
    (s.memory.holder = .free →
      (∀ (p : PortId) (r : CurrentRequest) (segs : Segments), s.ports[p].burst = .queued r segs →
        (∀ q : Requester, asks s q → turn s.memory.pointer (.port p) ≤ turn s.memory.pointer q) →
        s.grant =
          { s with
            memory :=
              { holder := .requester (.port p), pointer := after (.port p)
                transaction := some
                  { direction := r.direction, start := segs.first.start, words := segs.first.words,
                    segment := some .one,
                    data := if r.direction = .write then
                      readWords s.ports[p].buffer 0 segs.first.words else [] } }
            ports := s.ports.set p { s.ports[p] with burst := .moving r segs } }) ∧
      (∀ (t : Transfer) (w : Work), s.engine.state = .running t w → w.stage = some .requesting →
        (∀ q : Requester, asks s q → turn s.memory.pointer .engine ≤ turn s.memory.pointer q) →
        s.grant =
          { s with
            memory :=
              { holder := .requester .engine, pointer := .port 0
                transaction := chunkTransaction t w s.engine.outcome.done }
            engine := { s.engine with state := .running t { w with stage := some .inFlight } } }))

/-- No requester is granted twice before another that requests is granted: at a grant made with
POINTER just past a requester, that requester does not win while another requests (R101). -/
def Obligations.GrantRotates : Prop :=
  ∀ (s : State) (r q : Requester), s.memory.holder = .free → s.memory.pointer = after r →
    asks s q → q ≠ r → s.grant.memory.holder ≠ .requester r ∧ s.grant.memory.holder ≠ .free

/-- The chunk transactions of the engine: for a LOAD a read, for a DUMP a write of the chunk's images
in run order, at the list address plus 8 × DONE, 2 words for each entry; a LOAD's chunk covers
min(8, COUNT − DONE) entries (R103, R133, R137). -/
def Obligations.ChunkTransactions : Prop :=
  ∀ (t : Transfer) (w : Work) (done : Nat) (a : Word),
    (t.job = .load a → ∃ tr, chunkTransaction t w done = some tr ∧ tr.direction = .read ∧
      tr.start = a + BitVec.ofNat 32 (8 * done) ∧ tr.words = 2 * min 8 (t.count - done)) ∧
    ∀ clear : Bool, t.job = .dump a clear → ∃ tr, chunkTransaction t w done = some tr ∧
      tr.direction = .write ∧ tr.start = a + BitVec.ofNat 32 (8 * done) ∧
      tr.words = 2 * w.chunk.length ∧ tr.data.length = tr.words ∧
      ∀ (k : Nat) (h : k < w.chunk.length),
        tr.data[2 * k]? = some w.chunk[k].word0 ∧ tr.data[2 * k + 1]? = some w.chunk[k].word1

/-- Memory's answer to a port's transaction (R106): OK to segment 1 of two places the words of a READ
in the buffer and issues segment 2 in the same event; OK to the last segment answers DONE, with the
words of the buffer for a READ, and frees the memory port; ERROR decides fault MEMORY from the failing
segment (R107) and frees the memory port. The next grant is made in the event. -/
def Obligations.PortTransactionAnswer : Prop :=
  ∀ (s : State) (p : PortId) (r : CurrentRequest) (segs : Segments) (tr : Transaction)
    (which : PageIndex) (seg : Segment),
    s.memory.holder = .requester (.port p) → s.memory.transaction = some tr →
    tr.segment = some which → s.ports[p].burst = .moving r segs →
    (which = .one ∧ seg = segs.first ∨ which = .two ∧ segs.second = some seg) →
    let free (m : MemoryPort) : MemoryPort := { m with holder := .free, transaction := none }
    exec (.portTransactionAnswer .error) s = .next (State.grant (State.decideFault
      { s with memory := free s.memory } p r
      { kind := .memory, port := p, context := s.ports[p].binding, direction := r.direction,
        address := r.address, length := r.length, pageIndex := some seg.pageIndex,
        storeIndex := some seg.storeIndex, frame := some seg.frame })) ∧
    ∀ words : List Word,
      (tr.direction = .read → words.length = tr.words) → (tr.direction = .write → words = []) →
        let buffer := writeWords s.ports[p].buffer (if which = .one then 0 else segs.first.words) words
        (∀ second : Segment, which = .one → segs.second = some second →
          exec (.portTransactionAnswer (.ok words)) s = .next
            { s with
              ports := s.ports.set p { s.ports[p] with buffer := buffer }
              memory := { s.memory with
                transaction := some
                  { direction := r.direction, start := second.start, words := second.words,
                    segment := some .two,
                    data := if r.direction = .write then
                      readWords buffer segs.first.words second.words else [] } } }) ∧
        (which = .one ∧ segs.second = none ∨ which = .two →
          exec (.portTransactionAnswer (.ok words)) s = .next (State.grant (State.settle (State.answer
            { s with
              ports := s.ports.set p { s.ports[p] with buffer := buffer }
              memory := free s.memory } p
            (.done (if r.direction = .read then readWords buffer 0 r.length.toNat else []))))))

/-- The discarded answers: a LATE TRANSACTION's answer makes it absent, and the answer to a transaction
left in flight by a reset ends DISCARDING; in each HOLDER becomes FREE, nothing else is changed by the
answer, and the next grant is made in the event (R144, R110). -/
def Obligations.DiscardedAnswers : Prop :=
  ∀ (s : State) (answer : MemoryAnswer),
    (s.engine.late = true → s.memory.holder = .requester .engine →
      exec (.lateAnswer answer) s = .next (State.grant
        { s with
          engine := { s.engine with late := false }
          memory := { s.memory with holder := .free, transaction := none } })) ∧
    (s.memory.holder = .discarding →
      exec (.discardedAnswer answer) s = .next (State.grant
        { s with memory := { s.memory with holder := .free, transaction := none } }))

/-! ## The map transfer engine (chapter 8) -/

/-- The checks of a start command in the order of R129, then the acts of R130 with the transfer's job:
the mark, the outcome record IN_PROGRESS, and ENGINE STATE RUNNING, or DRAINING until the context has
drained. -/
def Sys2Proof.Statements.start (s : State) (code : BitVec 8) (fence : Word) (values : Prop)
    [Decidable values] (job : TransferJob) (list : Option Word) : State :=
  let p := s.command.latched
  if s.engine.state ≠ .idle then fails s code .engineBusy
  else if s.chip.mode ≠ .running then fails s code .notRunning
  else if h : p[0].toNat < 16 ∧ fence.toNat ≤ 1 ∧ values then
    if s.contexts[p[0].toNat].defined = false then fails s code .notDefined
    else if p[2].toNat = 0 ∨ 2048 < p[2].toNat ∨
        s.contexts[p[0].toNat].pages < p[1].toNat + p[2].toNat then fails s code .range
    else if list.any fun a => decide (a.toNat % 8 ≠ 0) then fails s code .badParameter
    else if list.any fun a => decide (4294967296 < a.toNat + 8 * p[2].toNat ∨
        s.chip.frameLimit * 4096 < a.toNat + 8 * p[2].toNat) then fails s code .range
    else
      let c : ContextId := ⟨p[0].toNat, h.1⟩
      let fenced : Bool := decide (fence.toNat = 1)
      let transfer : Transfer := ⟨job, c, p[1].toNat, p[2].toNat, fenced⟩
      let work : Work := ⟨[], if job.kind = .dump then some .reading else none, false⟩
      let started : State :=
        { putContext s c
            { s.contexts[c] with mark := if fence.toNat = 1 then .fenced else .plain } with
          engine :=
            { s.engine with
              state := if fence.toNat = 1 then .draining transfer else .running transfer work
              outcome :=
                { state := .inProgress, kind := some job.kind, context := c
                  firstPage := p[1].toNat, count := p[2].toNat, done := 0, marksLost := 0
                  failingAddress := none } } }
      succeeds started.endDrain code
  else fails s code .badParameter

/-- START LOAD, START DUMP and START FILL: the checks of R129, the acts of R130. -/
def Obligations.StartTransfers : Prop :=
  ∀ s : State,
    let p := s.command.latched
    (s.command.status = .taken 0x50#8 → exec (.startLoad .perform) s = .next
      (start s 0x50#8 p[4] True (.load p[3]) (some p[3]))) ∧
    (s.command.status = .taken 0x51#8 → exec (.startDump .perform) s = .next
      (start s 0x51#8 p[4] (p[5].toNat ≤ 1) (.dump p[3] (decide (p[5].toNat = 1))) (some p[3]))) ∧
    (s.command.status = .taken 0x52#8 → exec (.startFill .perform) s = .next
      (start s 0x52#8 p[5] (p[3].toNat ≤ 1048575)
        (.fill
          { frame := BitVec.ofNat 20 p[3].toNat, valid := p[4].getLsbD 24, read := p[4].getLsbD 25,
            write := p[4].getLsbD 26, touched := p[4].getLsbD 27, dirty := p[4].getLsbD 28 })
        none))

/-- The drain ends, and DRAINING goes to RUNNING, exactly when no port bound to the context has a burst
in LOOKUP, HELD, QUEUED or MOVING; a DUMP then stands in READING with an empty CHUNK (R131, R137). The
mode reaches QUIET, with QUIET_REACHED latched, when it is QUIESCING and every burst state and ENGINE
STATE are IDLE; otherwise nothing changes (R182). An event that takes a burst out of a state may
complete both; their order in it makes no difference, since an engine in DRAINING or RUNNING is not at
rest (log 13). -/
def Obligations.DrainAndQuiet : Prop :=
  (∀ (s : State) (t : Transfer), s.engine.state = .draining t →
    ((∃ p : PortId, s.ports[p].binding = some t.context ∧ s.ports[p].burst.code ∈ [1, 3, 5, 6]) →
      s.endDrain = s) ∧
    ((∀ p : PortId, s.ports[p].binding = some t.context → s.ports[p].burst.code ∈ [0, 2, 4]) →
      s.endDrain = { s with
        engine := { s.engine with
          state := .running t
            ⟨[], if t.job.kind = .dump then some .reading else none, false⟩ } })) ∧
  (∀ s : State,
    s.settle = s.endDrain.reachQuiet ∧
    (s.chip.mode = .quiescing → (∀ p : PortId, s.ports[p].burst = .idle) → s.engine.state = .idle →
      s.reachQuiet = { s with
        chip := { s.chip with
          mode := .quiet, flags := { s.chip.flags with quietReached := true } } }) ∧
    (s.chip.mode ≠ .quiescing ∨ (∃ p : PortId, s.ports[p].burst ≠ .idle) ∨ s.engine.state ≠ .idle →
      s.reachQuiet = s) ∧
    ((∀ t : Transfer, s.engine.state ≠ .draining t) → s.endDrain = s))

/-- The end of a transfer in one event: ENGINE STATE IDLE, the mark NONE, the outcome's STATE set,
TRANSFER_END latched, and QUIET reached when that completes a quiesce (R141, R182). -/
def Obligations.TransferEnds : Prop :=
  ∀ (s : State) (t : Transfer) (result : OutcomeState), s.engine.state.transfer = some t →
    s.endTransfer result = State.reachQuiet
      { s with
        engine := { s.engine with state := .idle, outcome := { s.engine.outcome with state := result } }
        contexts := s.contexts.set t.context { s.contexts[t.context] with mark := .none }
        chip := { s.chip with flags := { s.chip.flags with transferEnd := true } } }

/-- ABORT TRANSFER by the state of the engine (R142): ENGINE_IDLE; the end at once in DRAINING and for
a FILL or LOAD, a LOAD's chunk read in flight becoming the LATE TRANSACTION (R144); for a DUMP by the
stage of its chunk (R143). -/
def Obligations.AbortTransfer : Prop :=
  ∀ s : State, s.command.status = .taken 0x53#8 →
    (s.engine.state = .idle →
      exec (.abortTransfer .perform) s = .next (fails s 0x53#8 .engineIdle)) ∧
    (∀ t : Transfer, s.engine.state = .draining t →
      exec (.abortTransfer .perform) s = .next (succeeds (s.endTransfer .aborted) 0x53#8)) ∧
    ∀ (t : Transfer) (w : Work), s.engine.state = .running t w →
      (t.job.kind = .fill →
        exec (.abortTransfer .perform) s = .next (succeeds (s.endTransfer .aborted) 0x53#8)) ∧
      (t.job.kind = .load →
        exec (.abortTransfer .perform) s = .next (succeeds
          (State.endTransfer
            { s with engine := { s.engine with
              late := s.engine.late || decide (w.stage = some .inFlight) } } .aborted) 0x53#8)) ∧
      (t.job.kind = .dump →
        (w.stage = some .reading → w.chunk = [] →
          exec (.abortTransfer .perform) s = .next (succeeds (s.endTransfer .aborted) 0x53#8)) ∧
        (w.stage = some .reading → w.chunk ≠ [] →
          exec (.abortTransfer .perform) s = .next (succeeds
            (State.grant { s with engine := { s.engine with
              state := .running t ⟨w.chunk, some .requesting, true⟩ } }) 0x53#8)) ∧
        (w.stage = some .requesting ∨ w.stage = some .inFlight →
          exec (.abortTransfer .perform) s = .next (succeeds
            { s with engine := { s.engine with
              state := .running t { w with abortPending := true } } } 0x53#8)))

/-- The first engine event of a LOAD in RUNNING asks for the memory port with its first chunk's read
(R133, R99). The answer to a chunk read (R133, R135): on OK the words become the CHUNK, two words for
each image, and the stage WRITING; on ERROR the transfer ends MEMORY_ERROR with the transaction's start
as FAILING ADDRESS and MARKS LOST 0, and no entry is written. HOLDER becomes FREE and the next grant is
made (R108). -/
def Obligations.LoadChunks : Prop :=
  (∀ (s : State) (t : Transfer) (w : Work) (a : Word), s.engine.state = .running t w →
    t.job = .load a → w.stage = none →
    exec .loadChunkBegin s = .next (State.grant
      { s with engine := { s.engine with state := .running t { w with stage := some .requesting } } })) ∧
  (∀ (s : State) (t : Transfer) (w : Work) (a : Word) (tr : Transaction),
    s.memory.holder = .requester .engine → s.memory.transaction = some tr → tr.direction = .read →
    s.engine.state = .running t w → t.job = .load a → w.stage = some .inFlight →
    s.engine.late = false →
    let free : MemoryPort := { s.memory with holder := .free, transaction := none }
    (∀ words : List Word, words.length = tr.words →
      ∃ chunk : List ChunkImage, chunk.length = words.length / 2 ∧
        (∀ (k : Nat) (h : k < chunk.length),
          chunk[k].page = t.firstPage + s.engine.outcome.done + k ∧
          words[2 * k]? = some chunk[k].word0 ∧ words[2 * k + 1]? = some chunk[k].word1) ∧
        exec (.loadChunkAnswer (.ok words)) s = .next (State.grant
          { s with
            memory := free
            engine := { s.engine with
              state := .running t { w with chunk := chunk, stage := some .writing } } })) ∧
    exec (.loadChunkAnswer .error) s = .next (State.grant (State.endTransfer
      { s with
        memory := free
        engine := { s.engine with
          outcome := { s.engine.outcome with
            marksLost := 0, failingAddress := some tr.start } } } .memoryError)))

/-- LOAD and FILL write one entry in one event, at run position DONE with check GOOD, and DONE rises by
1 (R134, R136): a LOAD the fields in word 0 of its image (R176), a FILL the ENTRY VALUE. At COUNT the
transfer ends COMPLETE; after the last image of a chunk a LOAD asks for the next. -/
def Obligations.EngineWrites : Prop :=
  ∀ (s : State) (t : Transfer) (w : Work), s.engine.state = .running t w →
    let written (fields : Fields) : State :=
      let u := s.storeWrite (s.contexts[t.context].base + (t.firstPage + s.engine.outcome.done))
        fields .good
      { u with engine := { u.engine with
        outcome := { u.engine.outcome with done := u.engine.outcome.done + 1 } } }
    (∀ (a : Word) (image : ChunkImage) (rest : List ChunkImage), t.job = .load a →
      w.stage = some .writing → w.chunk = image :: rest →
      let u := written
        { frame := BitVec.ofNat 20 image.word0.toNat, valid := image.word0.getLsbD 24,
          read := image.word0.getLsbD 25, write := image.word0.getLsbD 26,
          touched := image.word0.getLsbD 27, dirty := image.word0.getLsbD 28 }
      exec .loadEntryWrite s = .next (
        if s.engine.outcome.done + 1 = t.count then u.endTransfer .complete
        else if rest = [] then
          State.grant { u with engine := { u.engine with
            state := .running t { w with chunk := [], stage := some .requesting } } }
        else { u with engine := { u.engine with state := .running t { w with chunk := rest } } })) ∧
    ∀ value : Fields, t.job = .fill value →
      exec .fillEntryWrite s = .next (
        if s.engine.outcome.done + 1 = t.count then (written value).endTransfer .complete
        else written value)

/-- A DUMP in READING reads one entry in one event, by a plain read or with CLEAR-MARKS a
read-and-clear, and its image, as read, joins the chunk; with the last image of the chunk the write is
asked for in the same event (R137, with the image of R176). -/
def Obligations.DumpReads : Prop :=
  ∀ (s : State) (t : Transfer) (w : Work) (a : Word) (clear : Bool),
    s.engine.state = .running t w → t.job = .dump a clear → w.stage = some .reading →
    let page := t.firstPage + (s.engine.outcome.done + w.chunk.length)
    let i := s.contexts[t.context].base + page
    let u := if clear = true then s.readAndClear i else s.plainRead i
    ∃ image : ChunkImage, image.page = page ∧ image.word0 = imageWord0 (s.store.entry i) ∧
      (page < 2048 → bits image.word1 0 11 = page ∧ bits image.word1 11 5 = 0 ∧
        bits image.word1 16 4 = t.context.val ∧ bits image.word1 20 12 = 0) ∧
      exec .dumpEntryRead s = .next (
        if w.chunk.length + 1 < min 8 (t.count - s.engine.outcome.done) then
          { u with engine := { u.engine with
            state := .running t { w with chunk := w.chunk ++ [image] } } }
        else
          State.grant { u with engine := { u.engine with
            state := .running t
              { w with chunk := w.chunk ++ [image], stage := some .requesting } } })

/-- The answer to a DUMP's chunk write: on OK DONE rises by the chunk's entries and the CHUNK is
emptied, and the transfer ends COMPLETE at COUNT, else ABORTED when an abort is pending, else reads on
(R138, R143); on ERROR it ends MEMORY_ERROR with the FAILING ADDRESS, MARKS LOST the chunk's entries
with CLEAR-MARKS and 0 without (R139). -/
def Obligations.DumpChunkAnswer : Prop :=
  ∀ (s : State) (t : Transfer) (w : Work) (a : Word) (clear : Bool) (tr : Transaction),
    s.memory.holder = .requester .engine → s.memory.transaction = some tr →
    s.engine.state = .running t w → t.job = .dump a clear → w.stage = some .inFlight →
    s.engine.late = false →
    let free : MemoryPort := { s.memory with holder := .free, transaction := none }
    let done := s.engine.outcome.done + w.chunk.length
    let counted : State :=
      { s with
        memory := free
        engine := { s.engine with outcome := { s.engine.outcome with done := done } } }
    exec (.dumpChunkAnswer (.ok [])) s = .next (State.grant (
      if done = t.count then counted.endTransfer .complete
      else if w.abortPending = true then counted.endTransfer .aborted
      else { counted with engine := { counted.engine with
        state := .running t ⟨[], some .reading, false⟩ } })) ∧
    exec (.dumpChunkAnswer .error) s = .next (State.grant (State.endTransfer
      { s with
        memory := free
        engine := { s.engine with
          outcome := { s.engine.outcome with
            marksLost := if clear = true then w.chunk.length else 0
            failingAddress := some tr.start } } } .memoryError))

/-! ## Chip control (chapter 11) -/

/-- QUIESCE: WRONG_STATE but in RUNNING; there QUIESCING, and QUIET at once when the rest condition
holds (R181; `reachQuiet` is stated in DrainAndQuiet). WAKE: WRONG_STATE in RUNNING; otherwise RUNNING,
and each port that is then READY takes the request waiting on its link; no flag changes (R182, R180,
R36). -/
def Obligations.QuiesceAndWake : Prop :=
  (∀ s : State, s.command.status = .taken 0x70#8 →
    exec (.quiesce .perform) s = .next (
      if s.chip.mode = .running then
        succeeds (State.reachQuiet { s with chip := { s.chip with mode := .quiescing } }) 0x70#8
      else fails s 0x70#8 .wrongState)) ∧
  (∀ s : State, s.command.status = .taken 0x71#8 →
    (s.chip.mode = .running → exec (.wake .perform) s = .next (fails s 0x71#8 .wrongState)) ∧
    (s.chip.mode ≠ .running →
      ∃ ports : Vector Port 6,
        exec (.wake .perform) s = .next (succeeds
          { s with chip := { s.chip with mode := .running }, ports := ports } 0x71#8) ∧
        ∀ p : PortId,
          (∀ r : Request, s.ports[p].link.waiting = some r → s.ports[p].gate = .admitted →
            s.ports[p].burst = .idle → s.chip.resetHeld = false →
            ports[p] = taking s.ports[p] r) ∧
          (s.ports[p].link.waiting = none ∨ s.ports[p].gate = .suspended ∨
            s.ports[p].burst ≠ .idle ∨ s.chip.resetHeld = true → ports[p] = s.ports[p])))

/-- SET FRAME LIMIT: NOT_QUIET but in QUIET with HOLDER FREE, BAD_PARAMETER on 0 or above 1,048,576,
otherwise the limit set; RESULT0 holds the limit in force for every outcome, and nothing else changes
(R183, R175). -/
def Obligations.SetFrameLimit : Prop :=
  ∀ s : State, s.command.status = .taken 0x72#8 →
    let p := s.command.latched
    let inForce (limit : Nat) : ResultWords := #v[BitVec.ofNat 32 limit, 0#32, 0#32, 0#32]
    exec (.setFrameLimit .perform) s = .next (
      if s.chip.mode ≠ .quiet ∨ s.memory.holder ≠ .free then
        ends s 0x72#8 .notQuiet (inForce s.chip.frameLimit)
      else if p[0].toNat = 0 ∨ 1048576 < p[0].toNat then
        ends s 0x72#8 .badParameter (inForce s.chip.frameLimit)
      else
        ends { s with chip := { s.chip with frameLimit := p[0].toNat } } 0x72#8 .ok
          (inForce p[0].toNat))

/-! ## The resets (R184, R185) -/

/-- What a reset leaves of a port's link: the request presented stays, and a burst is answered
REFUSED(RESET) (R36, R52). -/
def Sys2Proof.Statements.linkAfterReset (port : Port) : Link :=
  if port.burst = .idle then port.link
  else { port.link with answers := port.link.answers ++ [.refused .reset] }

/-- SOFT RESET (R170, R185): every burst answered REFUSED(RESET), every port DETACHED, SUSPENDED and
IDLE with an empty list (R52, R53); DEFINED contexts kept, unbound and unmarked (R32); a transaction in
flight left to DISCARDING, POINTER kept (R110); the fault queue, the stall list and the counter emptied
(R125); the engine IDLE with STATE NONE (R149); the latched flags clear, the mode RUNNING, the cause
SOFT; the store, the windows, the enables, the limit and the parameters kept. The spec gives the burst
buffers no meaning after a reset (R53): that each keeps its words is the model's choice (log 7), as it is
that the latched parameters are kept (log 16). -/
def Obligations.SoftReset : Prop :=
  ∀ s : State, s.command.status = .taken 0x7F#8 →
    ∃ (ports : Vector Port 6) (contexts : Vector Context 16),
      exec (.softReset .perform) s = .next (succeeds
        { s with
          ports := ports, contexts := contexts
          memory := { s.memory with
            holder := if s.memory.transaction = none then .free else .discarding }
          faults := { records := [], stalled := [], counter := 0#16 }
          engine :=
            { state := .idle, late := false
              outcome := ⟨.none, none, 0, 0, 0, 0, 0, none⟩ }
          chip := { s.chip with
            flags := ⟨false, false, false, false, false⟩, mode := .running, resetCause := .soft } }
        0x7F#8) ∧
      (∀ p : PortId, ports[p] =
        { binding := none, gate := .suspended, burst := .idle, buffer := s.ports[p].buffer,
          lookaside := [], link := linkAfterReset s.ports[p] }) ∧
      ∀ c : ContextId, contexts[c] = { s.contexts[c] with bindCount := 0, mark := .none }

/-- A pin reset, at the assertion of the reset input (R184, R185): as SOFT RESET for the ports, the
memory port's transaction, the fault queue and the engine; besides, every context FREE (R32), POINTER
P0 (R110), STORE ERROR INDEX none (R19), the windows cleared (R162), the command unit at its reset
values (R164), flags and enables clear, the limit 1,048,576, the cause PIN; the entries of the store
kept. The spec gives the burst buffers no meaning after a reset (R53): that each keeps its words is the
model's choice (log 7). The release of the input ends the reset and changes nothing else; that of an
input not held changes nothing, as the model has it (log 19). -/
def Obligations.PinReset : Prop :=
  ∀ s : State,
    (s.chip.resetHeld = false → ∃ ports : Vector Port 6,
      exec .pinReset s = .next
        { s with
          store := { s.store with errorIndex := none }
          contexts := Vector.replicate 16 ⟨false, 0, 0, false, 0, .none⟩
          ports := ports
          memory := { s.memory with
            holder := if s.memory.transaction = none then .free else .discarding
            pointer := .port 0 }
          faults := { records := [], stalled := [], counter := 0#16 }
          engine :=
            { state := .idle, late := false
              outcome := ⟨.none, none, 0, 0, 0, 0, 0, none⟩ }
          windows := Vector.replicate 4 ⟨false, 0#32, 0#32, true, false, 0#6, .note, 0, none⟩
          command :=
            { status := .idle, lastCode := 0#8, outcome := .none
              params := Vector.replicate 6 0#32, latched := Vector.replicate 6 0#32
              results := Vector.replicate 4 0#32 }
          chip :=
            { flags := ⟨false, false, false, false, false⟩
              enables := ⟨false, false, false, false, false, false, false, false⟩
              mode := .running, frameLimit := 1048576, resetCause := .pin, resetHeld := true } } ∧
      ∀ p : PortId, ports[p] =
        { binding := none, gate := .suspended, burst := .idle, buffer := s.ports[p].buffer,
          lookaside := [], link := linkAfterReset s.ports[p] }) ∧
    exec .pinResetRelease s = .next { s with chip := { s.chip with resetHeld := false } }

/-- A power-on reset leaves every block at its power-on values (R185), whatever the state before, with
HINT not asserted. That the requests on the links and the level of the reset input stay, since they are
the board's, is the model's choice (log 12), and so are the zeros of the burst buffers, which the spec
gives no value (log 7). -/
def Obligations.PowerOnReset : Prop :=
  ∀ s : State, ∃ t : State, exec .powerOnReset s = .next t ∧ powerOnValues t ∧ t.hint = false ∧
    (∀ p : PortId, t.ports[p].buffer = Vector.replicate 64 0#32 ∧
      t.ports[p].link = s.ports[p].link) ∧
    t.chip.resetHeld = s.chip.resetHeld ∧ t.pending = s.pending

/-! ## The laws of the part, kept by every step -/

/-- The map store keeps its canonical form, entries by rising index below 2048 (the model's own form,
log 8). -/
def Obligations.StoreStaysCanonical : Prop :=
  ∀ s t : State, s.store.wf → step s = .next t → t.store.wf

/-- Every step keeps the laws of the context table: each DEFINED record has 1 to 2048 pages within the
store and a FREE record its FREE values (R20); regions never share an entry (R21); BIND COUNT equals
the number of bound ports, whose contexts are DEFINED (R26); a mark other than NONE stands on the
target of the transfer in progress alone (R127). -/
def Obligations.ContextTableLaws : Prop :=
  ∀ s t : State, s.TableLawful → step s = .next t → t.TableLawful

/-- Every step keeps the two laws of R85: a DETACHED port holds no copies, a BOUND port at most 8, of
entries in its context's region, never two of one entry; every copy equals its entry field for field,
and that entry is VALID with a GOOD check. -/
def Obligations.LookasideLaws : Prop :=
  ∀ s t : State, s.LookasideLawful → step s = .next t → t.LookasideLawful

/-- Every step keeps the laws of the fault queue: at most 16 records with consecutive SEQ (R113), the
optional fields of each KIND (R112), and a port on the stall list exactly when STALLED, once, and only
while the queue holds 16 (R116). -/
def Obligations.FaultQueueLaws : Prop :=
  ∀ s t : State, s.FaultsLawful → step s = .next t → t.FaultsLawful

/-- Every step keeps the laws of the memory port: a port is MOVING exactly while it is the HOLDER, a
transaction is outstanding exactly while HOLDER is not FREE, and while HOLDER is FREE no requester
requests (R98 to R104). -/
def Obligations.MemoryPortLaws : Prop :=
  ∀ s t : State, s.MemoryLawful → step s = .next t → t.MemoryLawful

/-- Every step keeps the laws behind R105, the last of them R105 itself: no transaction on the memory
port addresses a byte at or above the frame limit × 4096. -/
def Obligations.FrameLimitLaws : Prop :=
  ∀ s t : State, s.LimitLawful → step s = .next t → t.LimitLawful

/-- Every step keeps the laws of waiting: a drain that could end has ended (R131), a QUIESCING part at
rest is QUIET and a QUIET part is at rest (R182), a request on a READY link has been taken (R36), and
while the reset input is held every block holds its reset values (R184), every flag and enable clear
(R179; HINT is then not asserted, FlagsAndHint). -/
def Obligations.WaitingLaws : Prop :=
  ∀ s t : State, s.WaitingLawful → step s = .next t → t.WaitingLawful

/-- The machine right after reset obeys every law above. -/
def Obligations.ResetObeysTheLaws : Prop :=
  State.reset.store.wf ∧ State.reset.TableLawful ∧ State.reset.LookasideLawful ∧
    State.reset.FaultsLawful ∧ State.reset.MemoryLawful ∧ State.reset.LimitLawful ∧
    State.reset.WaitingLawful
end

