-- ==== Sys2Proof/Laws/State.lean ====
section
/-! SUPPORT. What each update of the state does to each field of it, true by unfolding; and what the
update of one port or one context does to that port or context and to the others. -/

namespace Sys2Proof.Machine

open Sys2Proof

variable (s : State)

/-! ## updatePort -/

@[simp] theorem State.updatePort_store (p : PortId) (f : Port → Port) :
    (s.updatePort p f).store = s.store := rfl

@[simp] theorem State.updatePort_contexts (p : PortId) (f : Port → Port) :
    (s.updatePort p f).contexts = s.contexts := rfl

@[simp] theorem State.updatePort_ports (p : PortId) (f : Port → Port) :
    (s.updatePort p f).ports = s.ports.set p (f s.ports[p]) := rfl

@[simp] theorem State.updatePort_memory (p : PortId) (f : Port → Port) :
    (s.updatePort p f).memory = s.memory := rfl

@[simp] theorem State.updatePort_faults (p : PortId) (f : Port → Port) :
    (s.updatePort p f).faults = s.faults := rfl

@[simp] theorem State.updatePort_engine (p : PortId) (f : Port → Port) :
    (s.updatePort p f).engine = s.engine := rfl

@[simp] theorem State.updatePort_windows (p : PortId) (f : Port → Port) :
    (s.updatePort p f).windows = s.windows := rfl

@[simp] theorem State.updatePort_command (p : PortId) (f : Port → Port) :
    (s.updatePort p f).command = s.command := rfl

@[simp] theorem State.updatePort_chip (p : PortId) (f : Port → Port) :
    (s.updatePort p f).chip = s.chip := rfl

@[simp] theorem State.updatePort_pending (p : PortId) (f : Port → Port) :
    (s.updatePort p f).pending = s.pending := rfl

/-! ## setBurst -/

@[simp] theorem State.setBurst_store (p : PortId) (burst : Burst) :
    (s.setBurst p burst).store = s.store := rfl

@[simp] theorem State.setBurst_contexts (p : PortId) (burst : Burst) :
    (s.setBurst p burst).contexts = s.contexts := rfl

@[simp] theorem State.setBurst_ports (p : PortId) (burst : Burst) :
    (s.setBurst p burst).ports = s.ports.set p { s.ports[p] with burst } := rfl

@[simp] theorem State.setBurst_memory (p : PortId) (burst : Burst) :
    (s.setBurst p burst).memory = s.memory := rfl

@[simp] theorem State.setBurst_faults (p : PortId) (burst : Burst) :
    (s.setBurst p burst).faults = s.faults := rfl

@[simp] theorem State.setBurst_engine (p : PortId) (burst : Burst) :
    (s.setBurst p burst).engine = s.engine := rfl

@[simp] theorem State.setBurst_windows (p : PortId) (burst : Burst) :
    (s.setBurst p burst).windows = s.windows := rfl

@[simp] theorem State.setBurst_command (p : PortId) (burst : Burst) :
    (s.setBurst p burst).command = s.command := rfl

@[simp] theorem State.setBurst_chip (p : PortId) (burst : Burst) :
    (s.setBurst p burst).chip = s.chip := rfl

@[simp] theorem State.setBurst_pending (p : PortId) (burst : Burst) :
    (s.setBurst p burst).pending = s.pending := rfl

/-! ## updateContext -/

@[simp] theorem State.updateContext_store (c : ContextId) (f : Context → Context) :
    (s.updateContext c f).store = s.store := rfl

@[simp] theorem State.updateContext_contexts (c : ContextId) (f : Context → Context) :
    (s.updateContext c f).contexts = s.contexts.set c (f s.contexts[c]) := rfl

@[simp] theorem State.updateContext_ports (c : ContextId) (f : Context → Context) :
    (s.updateContext c f).ports = s.ports := rfl

@[simp] theorem State.updateContext_memory (c : ContextId) (f : Context → Context) :
    (s.updateContext c f).memory = s.memory := rfl

@[simp] theorem State.updateContext_faults (c : ContextId) (f : Context → Context) :
    (s.updateContext c f).faults = s.faults := rfl

@[simp] theorem State.updateContext_engine (c : ContextId) (f : Context → Context) :
    (s.updateContext c f).engine = s.engine := rfl

@[simp] theorem State.updateContext_windows (c : ContextId) (f : Context → Context) :
    (s.updateContext c f).windows = s.windows := rfl

@[simp] theorem State.updateContext_command (c : ContextId) (f : Context → Context) :
    (s.updateContext c f).command = s.command := rfl

@[simp] theorem State.updateContext_chip (c : ContextId) (f : Context → Context) :
    (s.updateContext c f).chip = s.chip := rfl

@[simp] theorem State.updateContext_pending (c : ContextId) (f : Context → Context) :
    (s.updateContext c f).pending = s.pending := rfl

/-! ## updateFlags -/

@[simp] theorem State.updateFlags_store (f : LatchedFlags → LatchedFlags) :
    (s.updateFlags f).store = s.store := rfl

@[simp] theorem State.updateFlags_contexts (f : LatchedFlags → LatchedFlags) :
    (s.updateFlags f).contexts = s.contexts := rfl

@[simp] theorem State.updateFlags_ports (f : LatchedFlags → LatchedFlags) :
    (s.updateFlags f).ports = s.ports := rfl

@[simp] theorem State.updateFlags_memory (f : LatchedFlags → LatchedFlags) :
    (s.updateFlags f).memory = s.memory := rfl

@[simp] theorem State.updateFlags_faults (f : LatchedFlags → LatchedFlags) :
    (s.updateFlags f).faults = s.faults := rfl

@[simp] theorem State.updateFlags_engine (f : LatchedFlags → LatchedFlags) :
    (s.updateFlags f).engine = s.engine := rfl

@[simp] theorem State.updateFlags_windows (f : LatchedFlags → LatchedFlags) :
    (s.updateFlags f).windows = s.windows := rfl

@[simp] theorem State.updateFlags_command (f : LatchedFlags → LatchedFlags) :
    (s.updateFlags f).command = s.command := rfl

@[simp] theorem State.updateFlags_chip (f : LatchedFlags → LatchedFlags) :
    (s.updateFlags f).chip = { s.chip with flags := f s.chip.flags } := rfl

@[simp] theorem State.updateFlags_pending (f : LatchedFlags → LatchedFlags) :
    (s.updateFlags f).pending = s.pending := rfl

/-! ## setMode -/

@[simp] theorem State.setMode_store (mode : Mode) :
    (s.setMode mode).store = s.store := rfl

@[simp] theorem State.setMode_contexts (mode : Mode) :
    (s.setMode mode).contexts = s.contexts := rfl

@[simp] theorem State.setMode_ports (mode : Mode) :
    (s.setMode mode).ports = s.ports := rfl

@[simp] theorem State.setMode_memory (mode : Mode) :
    (s.setMode mode).memory = s.memory := rfl

@[simp] theorem State.setMode_faults (mode : Mode) :
    (s.setMode mode).faults = s.faults := rfl

@[simp] theorem State.setMode_engine (mode : Mode) :
    (s.setMode mode).engine = s.engine := rfl

@[simp] theorem State.setMode_windows (mode : Mode) :
    (s.setMode mode).windows = s.windows := rfl

@[simp] theorem State.setMode_command (mode : Mode) :
    (s.setMode mode).command = s.command := rfl

@[simp] theorem State.setMode_chip (mode : Mode) :
    (s.setMode mode).chip = { s.chip with mode } := rfl

@[simp] theorem State.setMode_pending (mode : Mode) :
    (s.setMode mode).pending = s.pending := rfl

/-! ## setEngineState -/

@[simp] theorem State.setEngineState_store (e : EngineState) :
    (s.setEngineState e).store = s.store := rfl

@[simp] theorem State.setEngineState_contexts (e : EngineState) :
    (s.setEngineState e).contexts = s.contexts := rfl

@[simp] theorem State.setEngineState_ports (e : EngineState) :
    (s.setEngineState e).ports = s.ports := rfl

@[simp] theorem State.setEngineState_memory (e : EngineState) :
    (s.setEngineState e).memory = s.memory := rfl

@[simp] theorem State.setEngineState_faults (e : EngineState) :
    (s.setEngineState e).faults = s.faults := rfl

@[simp] theorem State.setEngineState_engine (e : EngineState) :
    (s.setEngineState e).engine = { s.engine with state := e } := rfl

@[simp] theorem State.setEngineState_windows (e : EngineState) :
    (s.setEngineState e).windows = s.windows := rfl

@[simp] theorem State.setEngineState_command (e : EngineState) :
    (s.setEngineState e).command = s.command := rfl

@[simp] theorem State.setEngineState_chip (e : EngineState) :
    (s.setEngineState e).chip = s.chip := rfl

@[simp] theorem State.setEngineState_pending (e : EngineState) :
    (s.setEngineState e).pending = s.pending := rfl

/-! ## updateOutcome -/

@[simp] theorem State.updateOutcome_store (f : OutcomeRecord → OutcomeRecord) :
    (s.updateOutcome f).store = s.store := rfl

@[simp] theorem State.updateOutcome_contexts (f : OutcomeRecord → OutcomeRecord) :
    (s.updateOutcome f).contexts = s.contexts := rfl

@[simp] theorem State.updateOutcome_ports (f : OutcomeRecord → OutcomeRecord) :
    (s.updateOutcome f).ports = s.ports := rfl

@[simp] theorem State.updateOutcome_memory (f : OutcomeRecord → OutcomeRecord) :
    (s.updateOutcome f).memory = s.memory := rfl

@[simp] theorem State.updateOutcome_faults (f : OutcomeRecord → OutcomeRecord) :
    (s.updateOutcome f).faults = s.faults := rfl

@[simp] theorem State.updateOutcome_engine (f : OutcomeRecord → OutcomeRecord) :
    (s.updateOutcome f).engine = { s.engine with outcome := f s.engine.outcome } := rfl

@[simp] theorem State.updateOutcome_windows (f : OutcomeRecord → OutcomeRecord) :
    (s.updateOutcome f).windows = s.windows := rfl

@[simp] theorem State.updateOutcome_command (f : OutcomeRecord → OutcomeRecord) :
    (s.updateOutcome f).command = s.command := rfl

@[simp] theorem State.updateOutcome_chip (f : OutcomeRecord → OutcomeRecord) :
    (s.updateOutcome f).chip = s.chip := rfl

@[simp] theorem State.updateOutcome_pending (f : OutcomeRecord → OutcomeRecord) :
    (s.updateOutcome f).pending = s.pending := rfl

/-! ## raiseDone -/

@[simp] theorem State.raiseDone_store (n : Nat) :
    (s.raiseDone n).store = s.store := rfl

@[simp] theorem State.raiseDone_contexts (n : Nat) :
    (s.raiseDone n).contexts = s.contexts := rfl

@[simp] theorem State.raiseDone_ports (n : Nat) :
    (s.raiseDone n).ports = s.ports := rfl

@[simp] theorem State.raiseDone_memory (n : Nat) :
    (s.raiseDone n).memory = s.memory := rfl

@[simp] theorem State.raiseDone_faults (n : Nat) :
    (s.raiseDone n).faults = s.faults := rfl

@[simp] theorem State.raiseDone_engine (n : Nat) :
    (s.raiseDone n).engine = { s.engine with
      outcome := { s.engine.outcome with done := s.engine.outcome.done + n } } := rfl

@[simp] theorem State.raiseDone_windows (n : Nat) :
    (s.raiseDone n).windows = s.windows := rfl

@[simp] theorem State.raiseDone_command (n : Nat) :
    (s.raiseDone n).command = s.command := rfl

@[simp] theorem State.raiseDone_chip (n : Nat) :
    (s.raiseDone n).chip = s.chip := rfl

@[simp] theorem State.raiseDone_pending (n : Nat) :
    (s.raiseDone n).pending = s.pending := rfl

/-! ## holdLate -/

@[simp] theorem State.holdLate_store :
    (s.holdLate).store = s.store := rfl

@[simp] theorem State.holdLate_contexts :
    (s.holdLate).contexts = s.contexts := rfl

@[simp] theorem State.holdLate_ports :
    (s.holdLate).ports = s.ports := rfl

@[simp] theorem State.holdLate_memory :
    (s.holdLate).memory = s.memory := rfl

@[simp] theorem State.holdLate_faults :
    (s.holdLate).faults = s.faults := rfl

@[simp] theorem State.holdLate_engine :
    (s.holdLate).engine = { s.engine with late := true } := rfl

@[simp] theorem State.holdLate_windows :
    (s.holdLate).windows = s.windows := rfl

@[simp] theorem State.holdLate_command :
    (s.holdLate).command = s.command := rfl

@[simp] theorem State.holdLate_chip :
    (s.holdLate).chip = s.chip := rfl

@[simp] theorem State.holdLate_pending :
    (s.holdLate).pending = s.pending := rfl

/-! ## freeMemory -/

@[simp] theorem State.freeMemory_store :
    (s.freeMemory).store = s.store := rfl

@[simp] theorem State.freeMemory_contexts :
    (s.freeMemory).contexts = s.contexts := rfl

@[simp] theorem State.freeMemory_ports :
    (s.freeMemory).ports = s.ports := rfl

@[simp] theorem State.freeMemory_memory :
    (s.freeMemory).memory = { s.memory with holder := .free, transaction := none } := rfl

@[simp] theorem State.freeMemory_faults :
    (s.freeMemory).faults = s.faults := rfl

@[simp] theorem State.freeMemory_engine :
    (s.freeMemory).engine = s.engine := rfl

@[simp] theorem State.freeMemory_windows :
    (s.freeMemory).windows = s.windows := rfl

@[simp] theorem State.freeMemory_command :
    (s.freeMemory).command = s.command := rfl

@[simp] theorem State.freeMemory_chip :
    (s.freeMemory).chip = s.chip := rfl

@[simp] theorem State.freeMemory_pending :
    (s.freeMemory).pending = s.pending := rfl

/-! ## setStatus -/

@[simp] theorem State.setStatus_store (status : CommandStatus) :
    (s.setStatus status).store = s.store := rfl

@[simp] theorem State.setStatus_contexts (status : CommandStatus) :
    (s.setStatus status).contexts = s.contexts := rfl

@[simp] theorem State.setStatus_ports (status : CommandStatus) :
    (s.setStatus status).ports = s.ports := rfl

@[simp] theorem State.setStatus_memory (status : CommandStatus) :
    (s.setStatus status).memory = s.memory := rfl

@[simp] theorem State.setStatus_faults (status : CommandStatus) :
    (s.setStatus status).faults = s.faults := rfl

@[simp] theorem State.setStatus_engine (status : CommandStatus) :
    (s.setStatus status).engine = s.engine := rfl

@[simp] theorem State.setStatus_windows (status : CommandStatus) :
    (s.setStatus status).windows = s.windows := rfl

@[simp] theorem State.setStatus_command (status : CommandStatus) :
    (s.setStatus status).command = { s.command with status } := rfl

@[simp] theorem State.setStatus_chip (status : CommandStatus) :
    (s.setStatus status).chip = s.chip := rfl

@[simp] theorem State.setStatus_pending (status : CommandStatus) :
    (s.setStatus status).pending = s.pending := rfl

/-! ## latchOverrun -/

@[simp] theorem State.latchOverrun_store :
    (s.latchOverrun).store = s.store := rfl

@[simp] theorem State.latchOverrun_contexts :
    (s.latchOverrun).contexts = s.contexts := rfl

@[simp] theorem State.latchOverrun_ports :
    (s.latchOverrun).ports = s.ports := rfl

@[simp] theorem State.latchOverrun_memory :
    (s.latchOverrun).memory = s.memory := rfl

@[simp] theorem State.latchOverrun_faults :
    (s.latchOverrun).faults = s.faults := rfl

@[simp] theorem State.latchOverrun_engine :
    (s.latchOverrun).engine = s.engine := rfl

@[simp] theorem State.latchOverrun_windows :
    (s.latchOverrun).windows = s.windows := rfl

@[simp] theorem State.latchOverrun_command :
    (s.latchOverrun).command = s.command := rfl

@[simp] theorem State.latchOverrun_chip :
    (s.latchOverrun).chip = { s.chip with
      flags := { s.chip.flags with overrun := true } } := rfl

@[simp] theorem State.latchOverrun_pending :
    (s.latchOverrun).pending = s.pending := rfl

/-! ## discoverBad -/

@[simp] theorem State.discoverBad_store (i : Nat) :
    (s.discoverBad i).store = { s.store with errorIndex := some i } := rfl

@[simp] theorem State.discoverBad_contexts (i : Nat) :
    (s.discoverBad i).contexts = s.contexts := rfl

@[simp] theorem State.discoverBad_ports (i : Nat) :
    (s.discoverBad i).ports = s.ports := rfl

@[simp] theorem State.discoverBad_memory (i : Nat) :
    (s.discoverBad i).memory = s.memory := rfl

@[simp] theorem State.discoverBad_faults (i : Nat) :
    (s.discoverBad i).faults = s.faults := rfl

@[simp] theorem State.discoverBad_engine (i : Nat) :
    (s.discoverBad i).engine = s.engine := rfl

@[simp] theorem State.discoverBad_windows (i : Nat) :
    (s.discoverBad i).windows = s.windows := rfl

@[simp] theorem State.discoverBad_command (i : Nat) :
    (s.discoverBad i).command = s.command := rfl

@[simp] theorem State.discoverBad_chip (i : Nat) :
    (s.discoverBad i).chip = { s.chip with
      flags := { s.chip.flags with storeError := true } } := rfl

@[simp] theorem State.discoverBad_pending (i : Nat) :
    (s.discoverBad i).pending = s.pending := rfl

/-! ## removeCopies -/

@[simp] theorem State.removeCopies_store (i : Nat) (except : Option PortId) :
    (s.removeCopies i except).store = s.store := rfl

@[simp] theorem State.removeCopies_contexts (i : Nat) (except : Option PortId) :
    (s.removeCopies i except).contexts = s.contexts := rfl

@[simp] theorem State.removeCopies_memory (i : Nat) (except : Option PortId) :
    (s.removeCopies i except).memory = s.memory := rfl

@[simp] theorem State.removeCopies_faults (i : Nat) (except : Option PortId) :
    (s.removeCopies i except).faults = s.faults := rfl

@[simp] theorem State.removeCopies_engine (i : Nat) (except : Option PortId) :
    (s.removeCopies i except).engine = s.engine := rfl

@[simp] theorem State.removeCopies_windows (i : Nat) (except : Option PortId) :
    (s.removeCopies i except).windows = s.windows := rfl

@[simp] theorem State.removeCopies_command (i : Nat) (except : Option PortId) :
    (s.removeCopies i except).command = s.command := rfl

@[simp] theorem State.removeCopies_chip (i : Nat) (except : Option PortId) :
    (s.removeCopies i except).chip = s.chip := rfl

@[simp] theorem State.removeCopies_pending (i : Nat) (except : Option PortId) :
    (s.removeCopies i except).pending = s.pending := rfl

/-! ## placePortCopy -/

@[simp] theorem State.placePortCopy_store (p : PortId) (c : Copy) :
    (s.placePortCopy p c).store = s.store := rfl

@[simp] theorem State.placePortCopy_contexts (p : PortId) (c : Copy) :
    (s.placePortCopy p c).contexts = s.contexts := rfl

@[simp] theorem State.placePortCopy_ports (p : PortId) (c : Copy) :
    (s.placePortCopy p c).ports = s.ports.set p
      { s.ports[p] with lookaside := placeCopy s.ports[p].lookaside c } := rfl

@[simp] theorem State.placePortCopy_memory (p : PortId) (c : Copy) :
    (s.placePortCopy p c).memory = s.memory := rfl

@[simp] theorem State.placePortCopy_faults (p : PortId) (c : Copy) :
    (s.placePortCopy p c).faults = s.faults := rfl

@[simp] theorem State.placePortCopy_engine (p : PortId) (c : Copy) :
    (s.placePortCopy p c).engine = s.engine := rfl

@[simp] theorem State.placePortCopy_windows (p : PortId) (c : Copy) :
    (s.placePortCopy p c).windows = s.windows := rfl

@[simp] theorem State.placePortCopy_command (p : PortId) (c : Copy) :
    (s.placePortCopy p c).command = s.command := rfl

@[simp] theorem State.placePortCopy_chip (p : PortId) (c : Copy) :
    (s.placePortCopy p c).chip = s.chip := rfl

@[simp] theorem State.placePortCopy_pending (p : PortId) (c : Copy) :
    (s.placePortCopy p c).pending = s.pending := rfl

/-! ## setGate -/

@[simp] theorem State.setGate_store (p : PortId) (gate : Gate) :
    (s.setGate p gate).store = s.store := rfl

@[simp] theorem State.setGate_contexts (p : PortId) (gate : Gate) :
    (s.setGate p gate).contexts = s.contexts := rfl

@[simp] theorem State.setGate_ports (p : PortId) (gate : Gate) :
    (s.setGate p gate).ports = s.ports.set p { s.ports[p] with gate } := rfl

@[simp] theorem State.setGate_memory (p : PortId) (gate : Gate) :
    (s.setGate p gate).memory = s.memory := rfl

@[simp] theorem State.setGate_faults (p : PortId) (gate : Gate) :
    (s.setGate p gate).faults = s.faults := rfl

@[simp] theorem State.setGate_engine (p : PortId) (gate : Gate) :
    (s.setGate p gate).engine = s.engine := rfl

@[simp] theorem State.setGate_windows (p : PortId) (gate : Gate) :
    (s.setGate p gate).windows = s.windows := rfl

@[simp] theorem State.setGate_command (p : PortId) (gate : Gate) :
    (s.setGate p gate).command = s.command := rfl

@[simp] theorem State.setGate_chip (p : PortId) (gate : Gate) :
    (s.setGate p gate).chip = s.chip := rfl

@[simp] theorem State.setGate_pending (p : PortId) (gate : Gate) :
    (s.setGate p gate).pending = s.pending := rfl

/-! ## setWaiting -/

@[simp] theorem State.setWaiting_store (p : PortId) (waiting : Option Request) :
    (s.setWaiting p waiting).store = s.store := rfl

@[simp] theorem State.setWaiting_contexts (p : PortId) (waiting : Option Request) :
    (s.setWaiting p waiting).contexts = s.contexts := rfl

@[simp] theorem State.setWaiting_ports (p : PortId) (waiting : Option Request) :
    (s.setWaiting p waiting).ports = s.ports.set p
      { s.ports[p] with link := { s.ports[p].link with waiting } } := rfl

@[simp] theorem State.setWaiting_memory (p : PortId) (waiting : Option Request) :
    (s.setWaiting p waiting).memory = s.memory := rfl

@[simp] theorem State.setWaiting_faults (p : PortId) (waiting : Option Request) :
    (s.setWaiting p waiting).faults = s.faults := rfl

@[simp] theorem State.setWaiting_engine (p : PortId) (waiting : Option Request) :
    (s.setWaiting p waiting).engine = s.engine := rfl

@[simp] theorem State.setWaiting_windows (p : PortId) (waiting : Option Request) :
    (s.setWaiting p waiting).windows = s.windows := rfl

@[simp] theorem State.setWaiting_command (p : PortId) (waiting : Option Request) :
    (s.setWaiting p waiting).command = s.command := rfl

@[simp] theorem State.setWaiting_chip (p : PortId) (waiting : Option Request) :
    (s.setWaiting p waiting).chip = s.chip := rfl

@[simp] theorem State.setWaiting_pending (p : PortId) (waiting : Option Request) :
    (s.setWaiting p waiting).pending = s.pending := rfl

/-! ## receiveWords -/

@[simp] theorem State.receiveWords_store (p : PortId) (pos : Nat) (words : List Word) :
    (s.receiveWords p pos words).store = s.store := rfl

@[simp] theorem State.receiveWords_contexts (p : PortId) (pos : Nat) (words : List Word) :
    (s.receiveWords p pos words).contexts = s.contexts := rfl

@[simp] theorem State.receiveWords_ports (p : PortId) (pos : Nat) (words : List Word) :
    (s.receiveWords p pos words).ports = s.ports.set p
      { s.ports[p] with buffer := writeWords s.ports[p].buffer pos words } := rfl

@[simp] theorem State.receiveWords_memory (p : PortId) (pos : Nat) (words : List Word) :
    (s.receiveWords p pos words).memory = s.memory := rfl

@[simp] theorem State.receiveWords_faults (p : PortId) (pos : Nat) (words : List Word) :
    (s.receiveWords p pos words).faults = s.faults := rfl

@[simp] theorem State.receiveWords_engine (p : PortId) (pos : Nat) (words : List Word) :
    (s.receiveWords p pos words).engine = s.engine := rfl

@[simp] theorem State.receiveWords_windows (p : PortId) (pos : Nat) (words : List Word) :
    (s.receiveWords p pos words).windows = s.windows := rfl

@[simp] theorem State.receiveWords_command (p : PortId) (pos : Nat) (words : List Word) :
    (s.receiveWords p pos words).command = s.command := rfl

@[simp] theorem State.receiveWords_chip (p : PortId) (pos : Nat) (words : List Word) :
    (s.receiveWords p pos words).chip = s.chip := rfl

@[simp] theorem State.receiveWords_pending (p : PortId) (pos : Nat) (words : List Word) :
    (s.receiveWords p pos words).pending = s.pending := rfl

/-! ## One port, one context -/

@[simp] theorem State.updatePort_same (p : PortId) (f : Port → Port) :
    (s.updatePort p f).ports[p] = f s.ports[p] := by
  simp

theorem State.updatePort_other (p q : PortId) (f : Port → Port) (h : p ≠ q) :
    (s.updatePort p f).ports[q] = s.ports[q] := by
  have : p.val ≠ q.val := fun e => h (Fin.ext e)
  simp [this]

theorem State.updatePort_get (p q : PortId) (f : Port → Port) :
    (s.updatePort p f).ports[q] = if p = q then f s.ports[q] else s.ports[q] := by
  by_cases h : p = q
  · subst h; simp
  · rw [s.updatePort_other p q f h, if_neg h]

@[simp] theorem State.updateContext_same (c : ContextId) (f : Context → Context) :
    (s.updateContext c f).contexts[c] = f s.contexts[c] := by
  simp

theorem State.updateContext_other (c d : ContextId) (f : Context → Context) (h : c ≠ d) :
    (s.updateContext c f).contexts[d] = s.contexts[d] := by
  have : c.val ≠ d.val := fun e => h (Fin.ext e)
  simp [this]

theorem State.updateContext_get (c d : ContextId) (f : Context → Context) :
    (s.updateContext c f).contexts[d] = if c = d then f s.contexts[d] else s.contexts[d] := by
  by_cases h : c = d
  · subst h; simp
  · rw [s.updateContext_other c d f h, if_neg h]

theorem State.setBurst_get (p q : PortId) (burst : Burst) :
    (s.setBurst p burst).ports[q] =
      if p = q then { s.ports[q] with burst } else s.ports[q] :=
  s.updatePort_get p q _

theorem State.removeCopies_get (i : Nat) (except : Option PortId) (q : PortId) :
    (s.removeCopies i except).ports[q] =
      if except = some q then s.ports[q] else s.ports[q].dropCopies i := by
  simp [State.removeCopies]

end Sys2Proof.Machine
end

