-- ==== Sys2Proof/Laws/Frames.lean ====
section
/-! SUPPORT. What each shared operation leaves unchanged: one lemma for each operation and each field
of the state that it does not touch. -/

namespace Sys2Proof.Machine

open Sys2Proof

variable (s : State)

/-! ## tryTake -/

@[simp] theorem State.tryTake_store (p : PortId) :
    (s.tryTake p).store = s.store := by
  unfold State.tryTake
  repeat' split
  all_goals rfl

@[simp] theorem State.tryTake_contexts (p : PortId) :
    (s.tryTake p).contexts = s.contexts := by
  unfold State.tryTake
  repeat' split
  all_goals rfl

@[simp] theorem State.tryTake_memory (p : PortId) :
    (s.tryTake p).memory = s.memory := by
  unfold State.tryTake
  repeat' split
  all_goals rfl

@[simp] theorem State.tryTake_faults (p : PortId) :
    (s.tryTake p).faults = s.faults := by
  unfold State.tryTake
  repeat' split
  all_goals rfl

@[simp] theorem State.tryTake_engine (p : PortId) :
    (s.tryTake p).engine = s.engine := by
  unfold State.tryTake
  repeat' split
  all_goals rfl

@[simp] theorem State.tryTake_windows (p : PortId) :
    (s.tryTake p).windows = s.windows := by
  unfold State.tryTake
  repeat' split
  all_goals rfl

@[simp] theorem State.tryTake_command (p : PortId) :
    (s.tryTake p).command = s.command := by
  unfold State.tryTake
  repeat' split
  all_goals rfl

@[simp] theorem State.tryTake_chip (p : PortId) :
    (s.tryTake p).chip = s.chip := by
  unfold State.tryTake
  repeat' split
  all_goals rfl

@[simp] theorem State.tryTake_pending (p : PortId) :
    (s.tryTake p).pending = s.pending := by
  unfold State.tryTake
  repeat' split
  all_goals rfl

/-! ## answer -/

@[simp] theorem State.answer_store (p : PortId) (a : LinkAnswer) :
    (s.answer p a).store = s.store := by
  simp [State.answer]

@[simp] theorem State.answer_contexts (p : PortId) (a : LinkAnswer) :
    (s.answer p a).contexts = s.contexts := by
  simp [State.answer]

@[simp] theorem State.answer_memory (p : PortId) (a : LinkAnswer) :
    (s.answer p a).memory = s.memory := by
  simp [State.answer]

@[simp] theorem State.answer_faults (p : PortId) (a : LinkAnswer) :
    (s.answer p a).faults = s.faults := by
  simp [State.answer]

@[simp] theorem State.answer_engine (p : PortId) (a : LinkAnswer) :
    (s.answer p a).engine = s.engine := by
  simp [State.answer]

@[simp] theorem State.answer_windows (p : PortId) (a : LinkAnswer) :
    (s.answer p a).windows = s.windows := by
  simp [State.answer]

@[simp] theorem State.answer_command (p : PortId) (a : LinkAnswer) :
    (s.answer p a).command = s.command := by
  simp [State.answer]

@[simp] theorem State.answer_chip (p : PortId) (a : LinkAnswer) :
    (s.answer p a).chip = s.chip := by
  simp [State.answer]

@[simp] theorem State.answer_pending (p : PortId) (a : LinkAnswer) :
    (s.answer p a).pending = s.pending := by
  simp [State.answer]

/-! ## appendAndAnswer -/

@[simp] theorem State.appendAndAnswer_store (p : PortId) (record : FaultRecord) :
    (s.appendAndAnswer p record).store = s.store := by
  simp [State.appendAndAnswer]

@[simp] theorem State.appendAndAnswer_contexts (p : PortId) (record : FaultRecord) :
    (s.appendAndAnswer p record).contexts = s.contexts := by
  simp [State.appendAndAnswer]

@[simp] theorem State.appendAndAnswer_memory (p : PortId) (record : FaultRecord) :
    (s.appendAndAnswer p record).memory = s.memory := by
  simp [State.appendAndAnswer]

@[simp] theorem State.appendAndAnswer_engine (p : PortId) (record : FaultRecord) :
    (s.appendAndAnswer p record).engine = s.engine := by
  simp [State.appendAndAnswer]

@[simp] theorem State.appendAndAnswer_windows (p : PortId) (record : FaultRecord) :
    (s.appendAndAnswer p record).windows = s.windows := by
  simp [State.appendAndAnswer]

@[simp] theorem State.appendAndAnswer_command (p : PortId) (record : FaultRecord) :
    (s.appendAndAnswer p record).command = s.command := by
  simp [State.appendAndAnswer]

@[simp] theorem State.appendAndAnswer_chip (p : PortId) (record : FaultRecord) :
    (s.appendAndAnswer p record).chip = s.chip := by
  simp [State.appendAndAnswer]

@[simp] theorem State.appendAndAnswer_pending (p : PortId) (record : FaultRecord) :
    (s.appendAndAnswer p record).pending = s.pending := by
  simp [State.appendAndAnswer]

/-! ## stall -/

@[simp] theorem State.stall_store (p : PortId) (r : CurrentRequest) (record : FaultRecord) :
    (s.stall p r record).store = s.store := rfl

@[simp] theorem State.stall_contexts (p : PortId) (r : CurrentRequest) (record : FaultRecord) :
    (s.stall p r record).contexts = s.contexts := rfl

@[simp] theorem State.stall_memory (p : PortId) (r : CurrentRequest) (record : FaultRecord) :
    (s.stall p r record).memory = s.memory := rfl

@[simp] theorem State.stall_engine (p : PortId) (r : CurrentRequest) (record : FaultRecord) :
    (s.stall p r record).engine = s.engine := rfl

@[simp] theorem State.stall_windows (p : PortId) (r : CurrentRequest) (record : FaultRecord) :
    (s.stall p r record).windows = s.windows := rfl

@[simp] theorem State.stall_command (p : PortId) (r : CurrentRequest) (record : FaultRecord) :
    (s.stall p r record).command = s.command := rfl

@[simp] theorem State.stall_chip (p : PortId) (r : CurrentRequest) (record : FaultRecord) :
    (s.stall p r record).chip = s.chip := rfl

@[simp] theorem State.stall_pending (p : PortId) (r : CurrentRequest) (record : FaultRecord) :
    (s.stall p r record).pending = s.pending := rfl

/-! ## endDrain -/

@[simp] theorem State.endDrain_store :
    (s.endDrain).store = s.store := by
  unfold State.endDrain
  repeat' split
  all_goals rfl

@[simp] theorem State.endDrain_contexts :
    (s.endDrain).contexts = s.contexts := by
  unfold State.endDrain
  repeat' split
  all_goals rfl

@[simp] theorem State.endDrain_ports :
    (s.endDrain).ports = s.ports := by
  unfold State.endDrain
  repeat' split
  all_goals rfl

@[simp] theorem State.endDrain_memory :
    (s.endDrain).memory = s.memory := by
  unfold State.endDrain
  repeat' split
  all_goals rfl

@[simp] theorem State.endDrain_faults :
    (s.endDrain).faults = s.faults := by
  unfold State.endDrain
  repeat' split
  all_goals rfl

@[simp] theorem State.endDrain_windows :
    (s.endDrain).windows = s.windows := by
  unfold State.endDrain
  repeat' split
  all_goals rfl

@[simp] theorem State.endDrain_command :
    (s.endDrain).command = s.command := by
  unfold State.endDrain
  repeat' split
  all_goals rfl

@[simp] theorem State.endDrain_chip :
    (s.endDrain).chip = s.chip := by
  unfold State.endDrain
  repeat' split
  all_goals rfl

@[simp] theorem State.endDrain_pending :
    (s.endDrain).pending = s.pending := by
  unfold State.endDrain
  repeat' split
  all_goals rfl

/-! ## reachQuiet -/

@[simp] theorem State.reachQuiet_store :
    (s.reachQuiet).store = s.store := by
  unfold State.reachQuiet
  repeat' split
  all_goals rfl

@[simp] theorem State.reachQuiet_contexts :
    (s.reachQuiet).contexts = s.contexts := by
  unfold State.reachQuiet
  repeat' split
  all_goals rfl

@[simp] theorem State.reachQuiet_ports :
    (s.reachQuiet).ports = s.ports := by
  unfold State.reachQuiet
  repeat' split
  all_goals rfl

@[simp] theorem State.reachQuiet_memory :
    (s.reachQuiet).memory = s.memory := by
  unfold State.reachQuiet
  repeat' split
  all_goals rfl

@[simp] theorem State.reachQuiet_faults :
    (s.reachQuiet).faults = s.faults := by
  unfold State.reachQuiet
  repeat' split
  all_goals rfl

@[simp] theorem State.reachQuiet_engine :
    (s.reachQuiet).engine = s.engine := by
  unfold State.reachQuiet
  repeat' split
  all_goals rfl

@[simp] theorem State.reachQuiet_windows :
    (s.reachQuiet).windows = s.windows := by
  unfold State.reachQuiet
  repeat' split
  all_goals rfl

@[simp] theorem State.reachQuiet_command :
    (s.reachQuiet).command = s.command := by
  unfold State.reachQuiet
  repeat' split
  all_goals rfl

@[simp] theorem State.reachQuiet_pending :
    (s.reachQuiet).pending = s.pending := by
  unfold State.reachQuiet
  repeat' split
  all_goals rfl

/-! ## settle -/

@[simp] theorem State.settle_store :
    (s.settle).store = s.store := by
  simp [State.settle]

@[simp] theorem State.settle_contexts :
    (s.settle).contexts = s.contexts := by
  simp [State.settle]

@[simp] theorem State.settle_ports :
    (s.settle).ports = s.ports := by
  simp [State.settle]

@[simp] theorem State.settle_memory :
    (s.settle).memory = s.memory := by
  simp [State.settle]

@[simp] theorem State.settle_faults :
    (s.settle).faults = s.faults := by
  simp [State.settle]

@[simp] theorem State.settle_windows :
    (s.settle).windows = s.windows := by
  simp [State.settle]

@[simp] theorem State.settle_command :
    (s.settle).command = s.command := by
  simp [State.settle]

@[simp] theorem State.settle_pending :
    (s.settle).pending = s.pending := by
  simp [State.settle]

/-! ## decideFault -/

@[simp] theorem State.decideFault_store (p : PortId) (r : CurrentRequest) (record : FaultRecord) :
    (s.decideFault p r record).store = s.store := by
  unfold State.decideFault
  split <;> simp

@[simp] theorem State.decideFault_contexts (p : PortId) (r : CurrentRequest) (record : FaultRecord) :
    (s.decideFault p r record).contexts = s.contexts := by
  unfold State.decideFault
  split <;> simp

@[simp] theorem State.decideFault_memory (p : PortId) (r : CurrentRequest) (record : FaultRecord) :
    (s.decideFault p r record).memory = s.memory := by
  unfold State.decideFault
  split <;> simp

@[simp] theorem State.decideFault_windows (p : PortId) (r : CurrentRequest) (record : FaultRecord) :
    (s.decideFault p r record).windows = s.windows := by
  unfold State.decideFault
  split <;> simp

@[simp] theorem State.decideFault_command (p : PortId) (r : CurrentRequest) (record : FaultRecord) :
    (s.decideFault p r record).command = s.command := by
  unfold State.decideFault
  split <;> simp

@[simp] theorem State.decideFault_pending (p : PortId) (r : CurrentRequest) (record : FaultRecord) :
    (s.decideFault p r record).pending = s.pending := by
  unfold State.decideFault
  split <;> simp

/-! ## grantTo -/

@[simp] theorem State.grantTo_store (r : Requester) :
    (s.grantTo r).store = s.store := by
  unfold State.grantTo
  repeat' split
  all_goals rfl

@[simp] theorem State.grantTo_contexts (r : Requester) :
    (s.grantTo r).contexts = s.contexts := by
  unfold State.grantTo
  repeat' split
  all_goals rfl

@[simp] theorem State.grantTo_faults (r : Requester) :
    (s.grantTo r).faults = s.faults := by
  unfold State.grantTo
  repeat' split
  all_goals rfl

@[simp] theorem State.grantTo_windows (r : Requester) :
    (s.grantTo r).windows = s.windows := by
  unfold State.grantTo
  repeat' split
  all_goals rfl

@[simp] theorem State.grantTo_command (r : Requester) :
    (s.grantTo r).command = s.command := by
  unfold State.grantTo
  repeat' split
  all_goals rfl

@[simp] theorem State.grantTo_chip (r : Requester) :
    (s.grantTo r).chip = s.chip := by
  unfold State.grantTo
  repeat' split
  all_goals rfl

@[simp] theorem State.grantTo_pending (r : Requester) :
    (s.grantTo r).pending = s.pending := by
  unfold State.grantTo
  repeat' split
  all_goals rfl

/-! ## grant -/

@[simp] theorem State.grant_store :
    (s.grant).store = s.store := by
  unfold State.grant
  repeat' split
  all_goals simp

@[simp] theorem State.grant_contexts :
    (s.grant).contexts = s.contexts := by
  unfold State.grant
  repeat' split
  all_goals simp

@[simp] theorem State.grant_faults :
    (s.grant).faults = s.faults := by
  unfold State.grant
  repeat' split
  all_goals simp

@[simp] theorem State.grant_windows :
    (s.grant).windows = s.windows := by
  unfold State.grant
  repeat' split
  all_goals simp

@[simp] theorem State.grant_command :
    (s.grant).command = s.command := by
  unfold State.grant
  repeat' split
  all_goals simp

@[simp] theorem State.grant_chip :
    (s.grant).chip = s.chip := by
  unfold State.grant
  repeat' split
  all_goals simp

@[simp] theorem State.grant_pending :
    (s.grant).pending = s.pending := by
  unfold State.grant
  repeat' split
  all_goals simp

/-! ## requestChunk -/

@[simp] theorem State.requestChunk_store (t : Transfer) (w : Work) :
    (s.requestChunk t w).store = s.store := by
  simp [State.requestChunk]

@[simp] theorem State.requestChunk_contexts (t : Transfer) (w : Work) :
    (s.requestChunk t w).contexts = s.contexts := by
  simp [State.requestChunk]

@[simp] theorem State.requestChunk_faults (t : Transfer) (w : Work) :
    (s.requestChunk t w).faults = s.faults := by
  simp [State.requestChunk]

@[simp] theorem State.requestChunk_windows (t : Transfer) (w : Work) :
    (s.requestChunk t w).windows = s.windows := by
  simp [State.requestChunk]

@[simp] theorem State.requestChunk_command (t : Transfer) (w : Work) :
    (s.requestChunk t w).command = s.command := by
  simp [State.requestChunk]

@[simp] theorem State.requestChunk_chip (t : Transfer) (w : Work) :
    (s.requestChunk t w).chip = s.chip := by
  simp [State.requestChunk]

@[simp] theorem State.requestChunk_pending (t : Transfer) (w : Work) :
    (s.requestChunk t w).pending = s.pending := by
  simp [State.requestChunk]

/-! ## endTransfer -/

@[simp] theorem State.endTransfer_store (result : OutcomeState) :
    (s.endTransfer result).store = s.store := by
  unfold State.endTransfer
  split <;> simp

@[simp] theorem State.endTransfer_ports (result : OutcomeState) :
    (s.endTransfer result).ports = s.ports := by
  unfold State.endTransfer
  split <;> simp

@[simp] theorem State.endTransfer_memory (result : OutcomeState) :
    (s.endTransfer result).memory = s.memory := by
  unfold State.endTransfer
  split <;> simp

@[simp] theorem State.endTransfer_faults (result : OutcomeState) :
    (s.endTransfer result).faults = s.faults := by
  unfold State.endTransfer
  split <;> simp

@[simp] theorem State.endTransfer_windows (result : OutcomeState) :
    (s.endTransfer result).windows = s.windows := by
  unfold State.endTransfer
  split <;> simp

@[simp] theorem State.endTransfer_command (result : OutcomeState) :
    (s.endTransfer result).command = s.command := by
  unfold State.endTransfer
  split <;> simp

@[simp] theorem State.endTransfer_pending (result : OutcomeState) :
    (s.endTransfer result).pending = s.pending := by
  unfold State.endTransfer
  split <;> simp

/-! ## startTransfer -/

@[simp] theorem State.startTransfer_store (t : Transfer) :
    (s.startTransfer t).store = s.store := by
  unfold State.startTransfer
  dsimp only
  split <;> simp

@[simp] theorem State.startTransfer_ports (t : Transfer) :
    (s.startTransfer t).ports = s.ports := by
  unfold State.startTransfer
  dsimp only
  split <;> simp

@[simp] theorem State.startTransfer_memory (t : Transfer) :
    (s.startTransfer t).memory = s.memory := by
  unfold State.startTransfer
  dsimp only
  split <;> simp

@[simp] theorem State.startTransfer_faults (t : Transfer) :
    (s.startTransfer t).faults = s.faults := by
  unfold State.startTransfer
  dsimp only
  split <;> simp

@[simp] theorem State.startTransfer_windows (t : Transfer) :
    (s.startTransfer t).windows = s.windows := by
  unfold State.startTransfer
  dsimp only
  split <;> simp

@[simp] theorem State.startTransfer_command (t : Transfer) :
    (s.startTransfer t).command = s.command := by
  unfold State.startTransfer
  dsimp only
  split <;> simp

@[simp] theorem State.startTransfer_chip (t : Transfer) :
    (s.startTransfer t).chip = s.chip := by
  unfold State.startTransfer
  dsimp only
  split <;> simp

@[simp] theorem State.startTransfer_pending (t : Transfer) :
    (s.startTransfer t).pending = s.pending := by
  unfold State.startTransfer
  dsimp only
  split <;> simp

/-! ## endWithError -/

@[simp] theorem State.endWithError_store (start : Word) (marksLost : Nat) :
    (s.endWithError start marksLost).store = s.store := by
  simp [State.endWithError]

@[simp] theorem State.endWithError_ports (start : Word) (marksLost : Nat) :
    (s.endWithError start marksLost).ports = s.ports := by
  simp [State.endWithError]

@[simp] theorem State.endWithError_memory (start : Word) (marksLost : Nat) :
    (s.endWithError start marksLost).memory = s.memory := by
  simp [State.endWithError]

@[simp] theorem State.endWithError_faults (start : Word) (marksLost : Nat) :
    (s.endWithError start marksLost).faults = s.faults := by
  simp [State.endWithError]

@[simp] theorem State.endWithError_windows (start : Word) (marksLost : Nat) :
    (s.endWithError start marksLost).windows = s.windows := by
  simp [State.endWithError]

@[simp] theorem State.endWithError_command (start : Word) (marksLost : Nat) :
    (s.endWithError start marksLost).command = s.command := by
  simp [State.endWithError]

@[simp] theorem State.endWithError_pending (start : Word) (marksLost : Nat) :
    (s.endWithError start marksLost).pending = s.pending := by
  simp [State.endWithError]

/-! ## plainRead -/

@[simp] theorem State.plainRead_contexts (i : Nat) :
    (s.plainRead i).contexts = s.contexts := by
  unfold State.plainRead
  split <;> simp

@[simp] theorem State.plainRead_ports (i : Nat) :
    (s.plainRead i).ports = s.ports := by
  unfold State.plainRead
  split <;> simp

@[simp] theorem State.plainRead_memory (i : Nat) :
    (s.plainRead i).memory = s.memory := by
  unfold State.plainRead
  split <;> simp

@[simp] theorem State.plainRead_faults (i : Nat) :
    (s.plainRead i).faults = s.faults := by
  unfold State.plainRead
  split <;> simp

@[simp] theorem State.plainRead_engine (i : Nat) :
    (s.plainRead i).engine = s.engine := by
  unfold State.plainRead
  split <;> simp

@[simp] theorem State.plainRead_windows (i : Nat) :
    (s.plainRead i).windows = s.windows := by
  unfold State.plainRead
  split <;> simp

@[simp] theorem State.plainRead_command (i : Nat) :
    (s.plainRead i).command = s.command := by
  unfold State.plainRead
  split <;> simp

@[simp] theorem State.plainRead_pending (i : Nat) :
    (s.plainRead i).pending = s.pending := by
  unfold State.plainRead
  split <;> simp

/-! ## storeWrite -/

@[simp] theorem State.storeWrite_contexts (i : Nat) (fields : Fields) (check : Check) :
    (s.storeWrite i fields check).contexts = s.contexts := rfl

@[simp] theorem State.storeWrite_memory (i : Nat) (fields : Fields) (check : Check) :
    (s.storeWrite i fields check).memory = s.memory := rfl

@[simp] theorem State.storeWrite_faults (i : Nat) (fields : Fields) (check : Check) :
    (s.storeWrite i fields check).faults = s.faults := rfl

@[simp] theorem State.storeWrite_engine (i : Nat) (fields : Fields) (check : Check) :
    (s.storeWrite i fields check).engine = s.engine := rfl

@[simp] theorem State.storeWrite_windows (i : Nat) (fields : Fields) (check : Check) :
    (s.storeWrite i fields check).windows = s.windows := rfl

@[simp] theorem State.storeWrite_command (i : Nat) (fields : Fields) (check : Check) :
    (s.storeWrite i fields check).command = s.command := rfl

@[simp] theorem State.storeWrite_chip (i : Nat) (fields : Fields) (check : Check) :
    (s.storeWrite i fields check).chip = s.chip := rfl

@[simp] theorem State.storeWrite_pending (i : Nat) (fields : Fields) (check : Check) :
    (s.storeWrite i fields check).pending = s.pending := rfl

/-! ## readAndClear -/

@[simp] theorem State.readAndClear_contexts (i : Nat) :
    (s.readAndClear i).contexts = s.contexts := by
  unfold State.readAndClear
  repeat' split
  all_goals simp

@[simp] theorem State.readAndClear_memory (i : Nat) :
    (s.readAndClear i).memory = s.memory := by
  unfold State.readAndClear
  repeat' split
  all_goals simp

@[simp] theorem State.readAndClear_faults (i : Nat) :
    (s.readAndClear i).faults = s.faults := by
  unfold State.readAndClear
  repeat' split
  all_goals simp

@[simp] theorem State.readAndClear_engine (i : Nat) :
    (s.readAndClear i).engine = s.engine := by
  unfold State.readAndClear
  repeat' split
  all_goals simp

@[simp] theorem State.readAndClear_windows (i : Nat) :
    (s.readAndClear i).windows = s.windows := by
  unfold State.readAndClear
  repeat' split
  all_goals simp

@[simp] theorem State.readAndClear_command (i : Nat) :
    (s.readAndClear i).command = s.command := by
  unfold State.readAndClear
  repeat' split
  all_goals simp

@[simp] theorem State.readAndClear_pending (i : Nat) :
    (s.readAndClear i).pending = s.pending := by
  unfold State.readAndClear
  repeat' split
  all_goals simp

/-! ## readAndMark -/

@[simp] theorem State.readAndMark_contexts (p : PortId) (i page : Nat) (direction : Direction) :
    (s.readAndMark p i page direction).contexts = s.contexts := by
  unfold State.readAndMark
  dsimp only
  repeat' split
  all_goals simp

@[simp] theorem State.readAndMark_memory (p : PortId) (i page : Nat) (direction : Direction) :
    (s.readAndMark p i page direction).memory = s.memory := by
  unfold State.readAndMark
  dsimp only
  repeat' split
  all_goals simp

@[simp] theorem State.readAndMark_faults (p : PortId) (i page : Nat) (direction : Direction) :
    (s.readAndMark p i page direction).faults = s.faults := by
  unfold State.readAndMark
  dsimp only
  repeat' split
  all_goals simp

@[simp] theorem State.readAndMark_engine (p : PortId) (i page : Nat) (direction : Direction) :
    (s.readAndMark p i page direction).engine = s.engine := by
  unfold State.readAndMark
  dsimp only
  repeat' split
  all_goals simp

@[simp] theorem State.readAndMark_windows (p : PortId) (i page : Nat) (direction : Direction) :
    (s.readAndMark p i page direction).windows = s.windows := by
  unfold State.readAndMark
  dsimp only
  repeat' split
  all_goals simp

@[simp] theorem State.readAndMark_command (p : PortId) (i page : Nat) (direction : Direction) :
    (s.readAndMark p i page direction).command = s.command := by
  unfold State.readAndMark
  dsimp only
  repeat' split
  all_goals simp

@[simp] theorem State.readAndMark_pending (p : PortId) (i page : Nat) (direction : Direction) :
    (s.readAndMark p i page direction).pending = s.pending := by
  unfold State.readAndMark
  dsimp only
  repeat' split
  all_goals simp

/-! ## handOff -/

@[simp] theorem State.handOff_store :
    (s.handOff).store = s.store := by
  unfold State.handOff
  split <;> simp

@[simp] theorem State.handOff_contexts :
    (s.handOff).contexts = s.contexts := by
  unfold State.handOff
  split <;> simp

@[simp] theorem State.handOff_memory :
    (s.handOff).memory = s.memory := by
  unfold State.handOff
  split <;> simp

@[simp] theorem State.handOff_windows :
    (s.handOff).windows = s.windows := by
  unfold State.handOff
  split <;> simp

@[simp] theorem State.handOff_command :
    (s.handOff).command = s.command := by
  unfold State.handOff
  split <;> simp

@[simp] theorem State.handOff_pending :
    (s.handOff).pending = s.pending := by
  unfold State.handOff
  split <;> simp

/-! ## abortDump -/

@[simp] theorem State.abortDump_store (t : Transfer) (w : Work) :
    (s.abortDump t w).store = s.store := by
  unfold State.abortDump
  repeat' split
  all_goals simp

@[simp] theorem State.abortDump_faults (t : Transfer) (w : Work) :
    (s.abortDump t w).faults = s.faults := by
  unfold State.abortDump
  repeat' split
  all_goals simp

@[simp] theorem State.abortDump_windows (t : Transfer) (w : Work) :
    (s.abortDump t w).windows = s.windows := by
  unfold State.abortDump
  repeat' split
  all_goals simp

@[simp] theorem State.abortDump_command (t : Transfer) (w : Work) :
    (s.abortDump t w).command = s.command := by
  unfold State.abortDump
  repeat' split
  all_goals simp

@[simp] theorem State.abortDump_pending (t : Transfer) (w : Work) :
    (s.abortDump t w).pending = s.pending := by
  unfold State.abortDump
  repeat' split
  all_goals simp

/-! ## abort -/

@[simp] theorem State.abort_store :
    (s.abort).store = s.store := by
  unfold State.abort
  repeat' split
  all_goals simp

@[simp] theorem State.abort_faults :
    (s.abort).faults = s.faults := by
  unfold State.abort
  repeat' split
  all_goals simp

@[simp] theorem State.abort_windows :
    (s.abort).windows = s.windows := by
  unfold State.abort
  repeat' split
  all_goals simp

@[simp] theorem State.abort_command :
    (s.abort).command = s.command := by
  unfold State.abort
  repeat' split
  all_goals simp

@[simp] theorem State.abort_pending :
    (s.abort).pending = s.pending := by
  unfold State.abort
  repeat' split
  all_goals simp

/-! ## noteMatches -/

@[simp] theorem State.noteMatches_store (p : PortId) (direction : Direction) (segs : Segments) :
    (s.noteMatches p direction segs).store = s.store := by
  unfold State.noteMatches
  split <;> simp

@[simp] theorem State.noteMatches_contexts (p : PortId) (direction : Direction) (segs : Segments) :
    (s.noteMatches p direction segs).contexts = s.contexts := by
  unfold State.noteMatches
  split <;> simp

@[simp] theorem State.noteMatches_ports (p : PortId) (direction : Direction) (segs : Segments) :
    (s.noteMatches p direction segs).ports = s.ports := by
  unfold State.noteMatches
  split <;> simp

@[simp] theorem State.noteMatches_memory (p : PortId) (direction : Direction) (segs : Segments) :
    (s.noteMatches p direction segs).memory = s.memory := by
  unfold State.noteMatches
  split <;> simp

@[simp] theorem State.noteMatches_faults (p : PortId) (direction : Direction) (segs : Segments) :
    (s.noteMatches p direction segs).faults = s.faults := by
  unfold State.noteMatches
  split <;> simp

@[simp] theorem State.noteMatches_engine (p : PortId) (direction : Direction) (segs : Segments) :
    (s.noteMatches p direction segs).engine = s.engine := by
  unfold State.noteMatches
  split <;> simp

@[simp] theorem State.noteMatches_windows (p : PortId) (direction : Direction) (segs : Segments) :
    (s.noteMatches p direction segs).windows = s.windows := by
  unfold State.noteMatches
  split <;> simp

@[simp] theorem State.noteMatches_command (p : PortId) (direction : Direction) (segs : Segments) :
    (s.noteMatches p direction segs).command = s.command := by
  unfold State.noteMatches
  split <;> simp

@[simp] theorem State.noteMatches_pending (p : PortId) (direction : Direction) (segs : Segments) :
    (s.noteMatches p direction segs).pending = s.pending := by
  unfold State.noteMatches
  split <;> simp

/-! ## recordHits -/

@[simp] theorem State.recordHits_store (p : PortId) (r : CurrentRequest) (segs : Segments) :
    (s.recordHits p r segs).store = s.store := rfl

@[simp] theorem State.recordHits_contexts (p : PortId) (r : CurrentRequest) (segs : Segments) :
    (s.recordHits p r segs).contexts = s.contexts := rfl

@[simp] theorem State.recordHits_ports (p : PortId) (r : CurrentRequest) (segs : Segments) :
    (s.recordHits p r segs).ports = s.ports := rfl

@[simp] theorem State.recordHits_memory (p : PortId) (r : CurrentRequest) (segs : Segments) :
    (s.recordHits p r segs).memory = s.memory := rfl

@[simp] theorem State.recordHits_faults (p : PortId) (r : CurrentRequest) (segs : Segments) :
    (s.recordHits p r segs).faults = s.faults := rfl

@[simp] theorem State.recordHits_engine (p : PortId) (r : CurrentRequest) (segs : Segments) :
    (s.recordHits p r segs).engine = s.engine := rfl

@[simp] theorem State.recordHits_command (p : PortId) (r : CurrentRequest) (segs : Segments) :
    (s.recordHits p r segs).command = s.command := rfl

@[simp] theorem State.recordHits_chip (p : PortId) (r : CurrentRequest) (segs : Segments) :
    (s.recordHits p r segs).chip = s.chip := rfl

@[simp] theorem State.recordHits_pending (p : PortId) (r : CurrentRequest) (segs : Segments) :
    (s.recordHits p r segs).pending = s.pending := rfl

/-! ## watchCompare -/

@[simp] theorem State.watchCompare_store (p : PortId) (r : CurrentRequest) (segs : Segments) :
    (s.watchCompare p r segs).store = s.store := by
  unfold State.watchCompare
  split <;> simp

@[simp] theorem State.watchCompare_contexts (p : PortId) (r : CurrentRequest) (segs : Segments) :
    (s.watchCompare p r segs).contexts = s.contexts := by
  unfold State.watchCompare
  split <;> simp

@[simp] theorem State.watchCompare_faults (p : PortId) (r : CurrentRequest) (segs : Segments) :
    (s.watchCompare p r segs).faults = s.faults := by
  unfold State.watchCompare
  split <;> simp

@[simp] theorem State.watchCompare_command (p : PortId) (r : CurrentRequest) (segs : Segments) :
    (s.watchCompare p r segs).command = s.command := by
  unfold State.watchCompare
  split <;> simp

@[simp] theorem State.watchCompare_pending (p : PortId) (r : CurrentRequest) (segs : Segments) :
    (s.watchCompare p r segs).pending = s.pending := by
  unfold State.watchCompare
  split <;> simp

/-! ## writeRunEntry -/

@[simp] theorem State.writeRunEntry_contexts (t : Transfer) (fields : Fields) :
    (s.writeRunEntry t fields).contexts = s.contexts := by
  simp [State.writeRunEntry]

@[simp] theorem State.writeRunEntry_memory (t : Transfer) (fields : Fields) :
    (s.writeRunEntry t fields).memory = s.memory := by
  simp [State.writeRunEntry]

@[simp] theorem State.writeRunEntry_faults (t : Transfer) (fields : Fields) :
    (s.writeRunEntry t fields).faults = s.faults := by
  simp [State.writeRunEntry]

@[simp] theorem State.writeRunEntry_windows (t : Transfer) (fields : Fields) :
    (s.writeRunEntry t fields).windows = s.windows := by
  simp [State.writeRunEntry]

@[simp] theorem State.writeRunEntry_command (t : Transfer) (fields : Fields) :
    (s.writeRunEntry t fields).command = s.command := by
  simp [State.writeRunEntry]

@[simp] theorem State.writeRunEntry_chip (t : Transfer) (fields : Fields) :
    (s.writeRunEntry t fields).chip = s.chip := by
  simp [State.writeRunEntry]

@[simp] theorem State.writeRunEntry_pending (t : Transfer) (fields : Fields) :
    (s.writeRunEntry t fields).pending = s.pending := by
  simp [State.writeRunEntry]

/-! ## issueSecond -/

@[simp] theorem State.issueSecond_store (p : PortId) (r : CurrentRequest) (segs : Segments) (second : Segment) :
    (s.issueSecond p r segs second).store = s.store := rfl

@[simp] theorem State.issueSecond_contexts (p : PortId) (r : CurrentRequest) (segs : Segments) (second : Segment) :
    (s.issueSecond p r segs second).contexts = s.contexts := rfl

@[simp] theorem State.issueSecond_ports (p : PortId) (r : CurrentRequest) (segs : Segments) (second : Segment) :
    (s.issueSecond p r segs second).ports = s.ports := rfl

@[simp] theorem State.issueSecond_faults (p : PortId) (r : CurrentRequest) (segs : Segments) (second : Segment) :
    (s.issueSecond p r segs second).faults = s.faults := rfl

@[simp] theorem State.issueSecond_engine (p : PortId) (r : CurrentRequest) (segs : Segments) (second : Segment) :
    (s.issueSecond p r segs second).engine = s.engine := rfl

@[simp] theorem State.issueSecond_windows (p : PortId) (r : CurrentRequest) (segs : Segments) (second : Segment) :
    (s.issueSecond p r segs second).windows = s.windows := rfl

@[simp] theorem State.issueSecond_command (p : PortId) (r : CurrentRequest) (segs : Segments) (second : Segment) :
    (s.issueSecond p r segs second).command = s.command := rfl

@[simp] theorem State.issueSecond_chip (p : PortId) (r : CurrentRequest) (segs : Segments) (second : Segment) :
    (s.issueSecond p r segs second).chip = s.chip := rfl

@[simp] theorem State.issueSecond_pending (p : PortId) (r : CurrentRequest) (segs : Segments) (second : Segment) :
    (s.issueSecond p r segs second).pending = s.pending := rfl

end Sys2Proof.Machine
end

