-- ==== Sys2Proof/Laws/Store.lean ====
section
/-! SUPPORT. The map store as a list: reading after writing, and the canonical form that every
operation on the store keeps. -/

namespace Sys2Proof.Machine

open Sys2Proof

/-! ## Reading after writing -/

theorem lookupEntry_insert_same (l : List (Nat × MapEntry)) (i : Nat) (e : MapEntry) :
    lookupEntry (insertEntry l i e) i = e := by
  induction l with
  | nil => simp [insertEntry, lookupEntry]
  | cons c rest ih =>
    obtain ⟨j, d⟩ := c
    unfold insertEntry
    split
    · simp [lookupEntry]
    · split
      · simp [lookupEntry]
      · next h => simp [lookupEntry, Ne.symm h, ih]

theorem lookupEntry_insert_other (l : List (Nat × MapEntry)) (i j : Nat) (e : MapEntry)
    (h : i ≠ j) : lookupEntry (insertEntry l i e) j = lookupEntry l j := by
  induction l with
  | nil => simp [insertEntry, lookupEntry, h]
  | cons c rest ih =>
    obtain ⟨k, d⟩ := c
    unfold insertEntry
    split
    · simp [lookupEntry, h]
    · split
      · next hk => subst hk; simp [lookupEntry, h]
      · simp [lookupEntry, ih]

theorem lookupEntry_remove (l : List (Nat × MapEntry)) (i j : Nat) :
    lookupEntry (l.filter fun c => c.1 ≠ i) j =
      if i = j then MapEntry.powerOn else lookupEntry l j := by
  induction l with
  | nil => simp [lookupEntry]
  | cons c rest ih =>
    obtain ⟨k, d⟩ := c
    by_cases hk : k = i
    · subst hk
      by_cases hj : k = j <;> simp_all [lookupEntry]
    · by_cases hj : k = j
      · subst hj
        have : ¬ i = k := fun e => hk e.symm
        simp [hk, lookupEntry, this]
      · simp [hk, lookupEntry, hj, ← ih]

/-- The entry at an index after a write there is the entry written. -/
theorem MapStore.entry_put_same (m : MapStore) (i : Nat) (e : MapEntry) (h : i < 2048) :
    (m.put i e).entry i = e := by
  unfold MapStore.put MapStore.entry
  rw [if_pos h]
  by_cases he : e = MapEntry.powerOn
  · simp only [he, if_true]; rw [lookupEntry_remove]; simp
  · simp only [he, if_false]; exact lookupEntry_insert_same _ _ _

/-- The entries at the other indices stay as they were. -/
theorem MapStore.entry_put_other (m : MapStore) (i j : Nat) (e : MapEntry) (h : i ≠ j) :
    (m.put i e).entry j = m.entry j := by
  unfold MapStore.put MapStore.entry
  by_cases hi : i < 2048
  · rw [if_pos hi]
    by_cases he : e = MapEntry.powerOn
    · simp only [he, if_true]; rw [lookupEntry_remove, if_neg h]
    · simp only [he, if_false]; exact lookupEntry_insert_other _ _ _ _ h
  · rw [if_neg hi]

@[simp] theorem MapStore.put_errorIndex (m : MapStore) (i : Nat) (e : MapEntry) :
    (m.put i e).errorIndex = m.errorIndex := by
  unfold MapStore.put; split <;> rfl

/-! ## The canonical form -/

theorem insertEntry_mem (l : List (Nat × MapEntry)) (i : Nat) (e : MapEntry) (c : Nat × MapEntry)
    (h : c ∈ insertEntry l i e) : c = (i, e) ∨ c ∈ l := by
  induction l with
  | nil => simpa [insertEntry] using h
  | cons d rest ih =>
    obtain ⟨k, x⟩ := d
    unfold insertEntry at h
    split at h
    · simpa using h
    · split at h
      · rcases List.mem_cons.mp h with h | h
        · exact Or.inl h
        · exact Or.inr (List.mem_cons_of_mem _ h)
      · rcases List.mem_cons.mp h with h | h
        · exact Or.inr (by simp [h])
        · rcases ih h with h | h
          · exact Or.inl h
          · exact Or.inr (List.mem_cons_of_mem _ h)

theorem insertEntry_rising (l : List (Nat × MapEntry)) (i : Nat) (e : MapEntry)
    (h : l.Pairwise fun a b => a.1 < b.1) :
    (insertEntry l i e).Pairwise fun a b => a.1 < b.1 := by
  induction l with
  | nil => simp [insertEntry]
  | cons d rest ih =>
    obtain ⟨k, x⟩ := d
    have hk : ∀ {c : Nat × MapEntry}, c ∈ rest → k < c.1 := fun hc => (List.pairwise_cons.mp h).1 _ hc
    have hr := List.Pairwise.of_cons h
    unfold insertEntry
    split
    · next hi =>
      refine List.Pairwise.cons ?_ h
      intro c hc
      rcases List.mem_cons.mp hc with hc | hc
      · simpa [hc] using hi
      · exact lt_trans hi (hk hc)
    · split
      · next hik =>
        subst hik
        exact List.Pairwise.cons (fun c hc => hk hc) hr
      · next h1 h2 =>
        refine List.Pairwise.cons ?_ (ih hr)
        intro c hc
        rcases insertEntry_mem rest i e c hc with hc | hc
        · subst hc; exact lt_of_le_of_ne (not_lt.mp h1) (Ne.symm h2)
        · exact hk hc

/-- A write keeps the canonical form. -/
theorem MapStore.put_wf (m : MapStore) (i : Nat) (e : MapEntry) (h : m.wf) : (m.put i e).wf := by
  unfold MapStore.put
  by_cases hi : i < 2048
  · rw [if_pos hi]
    by_cases he : e = MapEntry.powerOn
    · simp only [he, if_true]
      exact ⟨h.1.filter _, fun c hc => h.2 c (List.mem_filter.mp hc).1⟩
    · simp only [he, if_false]
      refine ⟨insertEntry_rising _ _ _ h.1, fun c hc => ?_⟩
      rcases insertEntry_mem _ _ _ c hc with hc | hc
      · subst hc; exact ⟨hi, he⟩
      · exact h.2 c hc
  · rw [if_neg hi]; exact h

theorem State.reset_store_wf : State.reset.store.wf := by decide

theorem State.discoverBad_wf (s : State) (i : Nat) (h : s.store.wf) :
    (s.discoverBad i).store.wf := h

theorem State.plainRead_wf (s : State) (i : Nat) (h : s.store.wf) : (s.plainRead i).store.wf := by
  unfold State.plainRead; split
  · exact h
  · exact h

theorem State.storeWrite_wf (s : State) (i : Nat) (fields : Fields) (check : Check)
    (h : s.store.wf) : (s.storeWrite i fields check).store.wf :=
  MapStore.put_wf _ _ _ h

theorem State.readAndClear_wf (s : State) (i : Nat) (h : s.store.wf) :
    (s.readAndClear i).store.wf := by
  unfold State.readAndClear
  repeat' split
  · exact h
  · exact State.storeWrite_wf _ _ _ _ h
  · exact h

theorem State.readAndMark_wf (s : State) (p : PortId) (i page : Nat) (direction : Direction)
    (h : s.store.wf) : (s.readAndMark p i page direction).store.wf := by
  unfold State.readAndMark
  dsimp only
  repeat' split
  · exact h
  · exact MapStore.put_wf _ _ _ h
  · exact h
  · exact h
  · exact h

end Sys2Proof.Machine
end

