-- ==== Sys2Proof/Laws/Exec.lean ====
section
/-! SUPPORT. What one command can do, said once: every next state of `exec` is the state itself or one
of the results listed here, under the condition in which it is due. A proof that every step keeps a
property has one case for each. -/

namespace Sys2Proof.Machine

open Sys2Proof

/-! ## Host commands -/

/-- The performances of the 25 host commands, with their codes. -/
def hostPerformances : List (BitVec 8 × (ParamWords → State → Performed)) :=
  [(0x10#8, performDefineContext), (0x11#8, performDeleteContext), (0x12#8, performReadContext),
   (0x20#8, performEntryWrite .good), (0x21#8, performEntryWrite .bad), (0x22#8, performProbe),
   (0x30#8, performBindPort), (0x31#8, performReleasePort), (0x32#8, performSuspendPort),
   (0x33#8, performAdmitPort), (0x34#8, performReadPort), (0x35#8, performFlushPort),
   (0x36#8, performResumeHeld), (0x37#8, performCancelHeld), (0x40#8, performPopFault),
   (0x50#8, performStartLoad), (0x51#8, performStartDump), (0x52#8, performStartFill),
   (0x53#8, performAbortTransfer), (0x60#8, performSetWindow), (0x61#8, performReadWindow),
   (0x70#8, performQuiesce), (0x71#8, performWake), (0x72#8, performSetFrameLimit),
   (0x7F#8, performSoftReset)]

/-- A take leaves the state as it is, latches OVERRUN, or makes STATUS BUSY. -/
theorem State.takeCommand_cases (s : State) (busy : CommandStatus) :
    s.takeCommand busy = s ∨ s.takeCommand busy = s.latchOverrun ∨
      (s.chip.resetHeld = false ∧ s.command.status = .idle ∧
        s.takeCommand busy =
          { s with command := { s.command with status := busy, latched := s.command.params } }) := by
  unfold State.takeCommand
  by_cases h : s.chip.resetHeld = true
  · simp [h]
  · by_cases h2 : s.command.status = .idle <;> simp [h, h2]

/-- The events of a host command keep what its take and its performance keep. -/
theorem State.hostCommand_keeps {P : State → Prop} (s : State) (code : BitVec 8)
    (perform : ParamWords → State → Performed) (event : CommandEvent) (h : P s)
    (take : ∀ s busy, P s → P (s.takeCommand busy))
    (performed : ∀ s, P s → s.command.status = .taken code →
      P ((perform s.command.latched s).state.setStatus
        (.performed code (perform s.command.latched s).outcome
          (perform s.command.latched s).results))) :
    P (s.hostCommand code perform event) := by
  have hp : ∀ s, P s → P (s.performCommand code perform) := by
    intro s h
    unfold State.performCommand
    split
    · next hs => exact performed s h hs
    · exact h
  cases event with
  | take => exact take _ _ h
  | perform => exact hp _ h
  | whole =>
    unfold State.hostCommand
    dsimp only
    split
    · exact hp _ (take _ _ h)
    · exact take _ _ h

/-! ## Every command -/

/-- The next states of `exec`. -/
theorem exec_next_cases {P : State → Prop} {c : Instr} {s t : State} (e : exec c s = .next t)
    (same : P s)
    (host : ∀ code perform event, (code, perform) ∈ hostPerformances →
      P (s.hostCommand code perform event))
    (unknown : ∀ code, P (s.takeCommand (.performed code .unknown zeroResults)))
    (overrun : s.command.status ≠ .idle → s.chip.resetHeld = false → P s.latchOverrun)
    (param : ∀ (k : Fin 6) w, s.chip.resetHeld = false →
      P { s with command := { s.command with params := s.command.params.set k w } })
    (acknowledge : ∀ w, s.chip.resetHeld = false → P (s.updateFlags fun f => f.acknowledge w))
    (enable : ∀ w, s.chip.resetHeld = false →
      P { s with chip := { s.chip with enables := enablesOfWord w } })
    (powerOn : P { State.reset with
      ports := Vector.ofFn fun p : PortId => s.ports[p].powerOn
      chip := { ChipControl.initial with resetHeld := s.chip.resetHeld }
      pending := s.pending })
    (pin : s.chip.resetHeld = false → P s.pinReset)
    (release : P { s with chip := { s.chip with resetHeld := false } })
    (present : ∀ p r, r.wellFormed = true → s.ports[p].link.waiting.isSome = false →
      P ((s.setWaiting p (some r)).tryTake p))
    (withdraw : ∀ p, P (s.setWaiting p none))
    (opening : ∀ p r, s.ports[p].burst = .opening r → P (s.openBurst p r))
    (lookup : ∀ p r walk b, s.ports[p].burst = .walking r walk → s.ports[p].binding = some b →
      P (s.lookupPage p b r walk))
    (resume : ∀ p r b, s.ports[p].burst = .fenced r → s.ports[p].binding = some b →
      s.contexts[b].mark ≠ .fenced → P (s.splitPages p b r))
    (segment : ∀ p t r segs which answer, s.memory.holder = .requester (.port p) →
      s.memory.transaction = some t → s.ports[p].burst = .moving r segs → t.segment = some which →
      t.acceptsAnswer answer = true → P (s.answerSegment p r segs which answer))
    (loadChunk : ∀ tr t w a answer, s.memory.holder = .requester .engine →
      s.memory.transaction = some tr → s.engine.state = .running t w → t.job = .load a →
      w.stage = some .inFlight → s.engine.late = false → tr.acceptsAnswer answer = true →
      P (s.answerLoad t w tr answer))
    (dumpChunk : ∀ tr t w a clear answer, s.memory.holder = .requester .engine →
      s.memory.transaction = some tr → s.engine.state = .running t w → t.job = .dump a clear →
      w.stage = some .inFlight → s.engine.late = false → P (s.answerDump t w clear tr answer))
    (late : s.engine.late = true → s.memory.holder = .requester .engine →
      P (State.freeMemory { s with engine := { s.engine with late := false } }).grant)
    (discard : s.memory.holder = .discarding → P s.freeMemory.grant)
    (loadBegin : ∀ t w a, s.engine.state = .running t w → t.job = .load a → w.stage = none →
      P (s.requestChunk t w))
    (loadWrite : ∀ t w a image rest, s.engine.state = .running t w → t.job = .load a →
      w.stage = some .writing → w.chunk = image :: rest →
      P ((s.writeRunEntry t (imageFields image.word0)).continueLoad t w rest))
    (fillWrite : ∀ t w value, s.engine.state = .running t w → t.job = .fill value →
      P (if (s.writeRunEntry t value).engine.outcome.done = t.count then
        (s.writeRunEntry t value).endTransfer .complete else s.writeRunEntry t value))
    (dumpRead : ∀ t w a clear, s.engine.state = .running t w → t.job = .dump a clear →
      w.stage = some .reading → P (s.readForDump t w clear))
    (complete : ∀ code outcome results, s.command.status = .performed code outcome results →
      P { s with
        command := { s.command with status := .idle, lastCode := code, outcome, results } }) :
    P t := by
  cases c <;> simp only [exec] at e
  case unknownCommand => unfold execUnknownCommand at e; split at e <;> cases e; exact unknown _
  case discardedCommandWrite =>
    unfold execDiscardedCommandWrite at e; cases e; split
    · exact same
    · next h => rw [not_or] at h; exact overrun h.1 (Bool.not_eq_true _ ▸ h.2)
  case paramWrite =>
    unfold execParamWrite at e; cases e; split
    · exact same
    · next h => exact param _ _ (Bool.not_eq_true _ ▸ h)
  case eventsAcknowledge =>
    unfold execEventsAcknowledge at e; cases e; split
    · exact same
    · next h => exact acknowledge _ (Bool.not_eq_true _ ▸ h)
  case eventEnableWrite =>
    unfold execEventEnableWrite at e; cases e; split
    · exact same
    · next h => exact enable _ (Bool.not_eq_true _ ▸ h)
  case ignoredRegisterWrite => unfold execIgnoredRegisterWrite at e; split at e <;> cases e; exact same
  case powerOnReset => unfold execPowerOnReset at e; cases e; exact powerOn
  case pinReset =>
    unfold execPinReset at e; cases e; split
    · exact same
    · next h => exact pin (Bool.not_eq_true _ ▸ h)
  case pinResetRelease => unfold execPinResetRelease at e; cases e; exact release
  case requestPresented p r =>
    unfold execRequestPresented at e
    split at e
    · next hw =>
      split at e
      · cases e
      · next h => cases e; exact present p r hw (Bool.not_eq_true _ ▸ h)
    · cases e
  case requestWithdrawn => unfold execRequestWithdrawn at e; cases e; exact withdraw _
  case openingEvent =>
    unfold execOpeningEvent at e
    split at e <;> cases e <;> first | exact same | exact opening _ _ ‹_›
  case pageLookup =>
    unfold execPageLookup at e
    split at e <;> cases e <;> first | exact same | exact lookup _ _ _ _ ‹_› ‹_›
  case resumptionEvent =>
    unfold execResumptionEvent at e
    split at e <;> cases e
    · split
      · exact same
      · exact resume _ _ _ ‹_› ‹_› ‹_›
    · exact same
  case portTransactionAnswer =>
    unfold execPortTransactionAnswer at e
    repeat' split at e
    all_goals cases e
    all_goals first | exact same | exact segment _ _ _ _ _ _ ‹_› ‹_› ‹_› ‹_› ‹_›
  case loadChunkAnswer =>
    unfold execLoadChunkAnswer at e
    repeat' split at e
    all_goals cases e
    all_goals first
      | exact same
      | exact loadChunk _ _ _ _ _ ‹_› ‹_› ‹_› ‹_› (And.left ‹_›) (And.right ‹_›) ‹_›
  case dumpChunkAnswer =>
    unfold execDumpChunkAnswer at e
    repeat' split at e
    all_goals cases e
    all_goals first
      | exact same
      | exact dumpChunk _ _ _ _ _ _ ‹_› ‹_› ‹_› ‹_› (And.left ‹_›) (And.right ‹_›)
  case lateAnswer =>
    unfold execLateAnswer at e; cases e; split
    · next h => exact late h.1 h.2
    · exact same
  case discardedAnswer =>
    unfold execDiscardedAnswer at e; cases e; split
    · exact discard ‹_›
    · exact same
  case loadChunkBegin =>
    unfold execLoadChunkBegin at e
    repeat' split at e
    all_goals cases e
    all_goals first | exact same | exact loadBegin _ _ _ ‹_› ‹_› ‹_›
  case loadEntryWrite =>
    unfold execLoadEntryWrite at e
    repeat' split at e
    all_goals cases e
    all_goals first | exact same | exact loadWrite _ _ _ _ _ ‹_› ‹_› ‹_› ‹_›
  case fillEntryWrite =>
    unfold execFillEntryWrite at e
    repeat' split at e
    all_goals cases e
    all_goals first | exact same | exact fillWrite _ _ _ ‹_› ‹_›
  case dumpEntryRead =>
    unfold execDumpEntryRead at e
    repeat' split at e
    all_goals cases e
    all_goals first | exact same | exact dumpRead _ _ _ _ ‹_› ‹_› ‹_›
  case commandUnitCompletion =>
    unfold execCommandUnitCompletion at e
    split at e <;> cases e <;> first | exact same | exact complete _ _ _ ‹_›
  all_goals
    injection e with e
    subst e
    refine host _ _ _ ?_
    simp only [hostPerformances, List.mem_cons, Prod.mk.injEq, or_true, true_or]

end Sys2Proof.Machine
end

