-- ==== Sys2Proof/Laws/Formats.lean ====
section
/-! SUPPORT. The bits of words built from fields: which bit of `place`, `placeBit` and `joinFields` is
which bit of the field. A statement about a layout is proved bit by bit from these. -/

namespace Sys2Proof.Machine

open Sys2Proof

/-- Bit `i` of a placed number is bit `i - lo` of the number, inside the word. -/
theorem place_getLsbD (lo n i : Nat) :
    (place lo n).getLsbD i = (decide (i < 32) && decide (lo ≤ i) && n.testBit (i - lo)) := by
  unfold place
  rw [BitVec.getLsbD_shiftLeft, BitVec.getLsbD_ofNat]
  by_cases h : i < 32 <;> by_cases k : i < lo
  · simp [h, k, Nat.not_le.mpr k]
  · simp [h, k, Nat.not_lt.mp k, show i - lo < 32 by omega]
  · simp [h, k]
  · simp [h, k]

/-- Bit `i` of a placed yes-or-no field. -/
theorem placeBit_getLsbD (lo : Nat) (b : Bool) (i : Nat) :
    (placeBit lo b).getLsbD i = (b && decide (i < 32) && decide (i = lo)) := by
  unfold placeBit
  cases b
  · simp
  · rw [if_pos rfl, place_getLsbD]
    by_cases h : i = lo
    · subst h; simp
    · by_cases k : lo ≤ i
      · have : Nat.testBit 1 (i - lo) = false :=
          Nat.testBit_lt_two_pow (Nat.one_lt_two_pow (by omega))
        simp [h, this]
      · simp [h, k]

/-- A bit of joined fields is set in some field. -/
theorem joinFields_getLsbD (fields : List Word) (i : Nat) :
    (joinFields fields).getLsbD i = fields.any fun w => w.getLsbD i := by
  unfold joinFields
  induction fields with
  | nil => simp
  | cons w rest ih => simp [ih]

/-- A number below `2 ^ k` has no bit from `k` on. -/
theorem testBit_of_lt {n k i : Nat} (h : n < 2 ^ k) (hi : k ≤ i) : n.testBit i = false :=
  Nat.testBit_lt_two_pow (lt_of_lt_of_le h (Nat.pow_le_pow_right (by decide) hi))

/-- A placed number shows its own bits at its own place. -/
theorem place_own (lo n j : Nat) (h : lo + j < 32) : (place lo n).getLsbD (lo + j) = n.testBit j := by
  rw [place_getLsbD]
  simp [h]

/-- A placed number below `2 ^ k` shows nothing outside its `k` bits. -/
theorem place_outside (lo n k i : Nat) (hn : n < 2 ^ k) (hi : i < lo ∨ lo + k ≤ i) :
    (place lo n).getLsbD i = false := by
  rw [place_getLsbD]
  rcases hi with hi | hi
  · simp [Nat.not_le.mpr hi]
  · rw [testBit_of_lt hn (by omega)]
    simp

/-- A field of joined fields, read as a number: the one field `x` shows `v` in its bits, the others
show nothing there. -/
theorem joinFields_field (before : List Word) (x : Word) (behind : List Word) (lo n v : Nat)
    (hv : v < 2 ^ n) (own : ∀ j < n, x.getLsbD (lo + j) = v.testBit j)
    (others : ∀ w ∈ before ++ behind, ∀ j < n, w.getLsbD (lo + j) = false) :
    (joinFields (before ++ x :: behind)).toNat / 2 ^ lo % 2 ^ n = v := by
  apply Nat.eq_of_testBit_eq
  intro j
  rw [Nat.testBit_mod_two_pow, Nat.testBit_div_two_pow]
  by_cases hj : j < n
  · have hb : before.any (fun w => w.getLsbD (lo + j)) = false :=
      List.any_eq_false.mpr fun w hw => by simp [others w (by simp [hw]) j hj]
    have hc : behind.any (fun w => w.getLsbD (lo + j)) = false :=
      List.any_eq_false.mpr fun w hw => by simp [others w (by simp [hw]) j hj]
    have := joinFields_getLsbD (before ++ x :: behind) (lo + j)
    rw [List.any_append, List.any_cons, hb, hc, own j hj] at this
    rw [Bool.or_false, Bool.false_or] at this
    rw [Nat.add_comm j lo, decide_eq_true hj, Bool.true_and]
    exact this
  · rw [testBit_of_lt hv (by omega)]
    simp [hj]

/-- One bit of a word, read as a number. -/
theorem bit_as_number (w : Word) (i : Nat) : w.toNat / 2 ^ i % 2 ^ 1 = (w.getLsbD i).toNat := by
  rw [Nat.pow_one, BitVec.getLsbD, Nat.testBit_eq_decide_div_mod_eq]
  rcases Nat.mod_two_eq_zero_or_one (w.toNat / 2 ^ i) with h | h <;> simp [h]

/-- A bit that no field shows is 0: the bits that a layout does not name. -/
theorem joinFields_unnamed (fields : List Word) (i : Nat)
    (h : ∀ w ∈ fields, w.getLsbD i = false) : (joinFields fields).toNat / 2 ^ i % 2 ^ 1 = 0 := by
  rw [bit_as_number, joinFields_getLsbD,
    List.any_eq_false.mpr fun w hw => by simp [h w hw]]
  rfl

end Sys2Proof.Machine
end

