-- ==== Sys2Proof/Laws/HostPort.lean ====
section
/-! SUPPORT. What a host write is: the command that the word of the window and, for COMMAND, the code
pick (R163, R165, R168), and what a write to COMMAND can do. -/

namespace Sys2Proof.Machine

open Sys2Proof

/-- No two commands have one code. -/
theorem knownCodes_nodup : knownCodes.Nodup := by decide

/-- The table and the codes of the commands agree. -/
theorem hostCommand_of_commandTable {entry : BitVec 8 × (CommandEvent → Instr)}
    (h : entry ∈ commandTable) (event : CommandEvent) :
    (entry.2 event).hostCommand = some (entry.1, event) := by
  simp only [commandTable, List.mem_append, List.mem_cons, List.not_mem_nil, or_false] at h
  repeat' rcases h with h | h
  all_goals rfl

/-- A word with the code of a command is the take of that command, whatever its bits 8–31 (R165). -/
theorem commandWrite_known {entry : BitVec 8 × (CommandEvent → Instr)} (h : entry ∈ commandTable)
    {word : Word} (code : commandCode word = entry.1) : commandWrite word = entry.2 .take := by
  unfold commandWrite
  rw [code]
  simp only [commandTable, List.mem_append, List.mem_cons, List.not_mem_nil, or_false] at h
  repeat' rcases h with h | h
  all_goals rfl

/-- A word with another code is UNKNOWN_COMMAND (R168). -/
theorem commandWrite_unknown {word : Word} (h : commandCode word ∉ knownCodes) :
    commandWrite word = .unknownCommand word := by
  have none : (commandTable.find? fun entry => entry.1 == commandCode word) = none := by
    rw [List.find?_eq_none]
    intro entry mem eq
    exact h (List.mem_map.mpr ⟨entry, mem, by simpa using eq⟩)
  unfold commandWrite
  rw [none]

/-- A word written to COMMAND is the take of a command of the table, or of a code that is not known. -/
theorem commandWrite_cases (word : Word) :
    (∃ entry ∈ commandTable, commandCode word = entry.1 ∧ commandWrite word = entry.2 .take) ∨
      commandCode word ∉ knownCodes ∧ commandWrite word = .unknownCommand word := by
  by_cases h : commandCode word ∈ knownCodes
  · obtain ⟨entry, mem, eq⟩ := List.mem_map.mp h
    exact Or.inl ⟨entry, mem, eq.symm, commandWrite_known mem eq.symm⟩
  · exact Or.inr ⟨h, commandWrite_unknown h⟩

/-- The take of each command of the table. -/
theorem exec_take {entry : BitVec 8 × (CommandEvent → Instr)} (h : entry ∈ commandTable) (s : State) :
    exec (entry.2 .take) s = .next (s.takeCommand (.taken entry.1)) := by
  simp only [commandTable, List.mem_append, List.mem_cons, List.not_mem_nil, or_false] at h
  repeat' rcases h with h | h
  all_goals rfl

/-- The take of a code that is not known (R168). -/
theorem exec_unknownCommand {word : Word} (h : commandCode word ∉ knownCodes) (s : State) :
    exec (.unknownCommand word) s =
      .next (s.takeCommand (.performed (commandCode word) .unknown zeroResults)) := by
  show execUnknownCommand word s = _
  unfold execUnknownCommand
  exact if_pos (by simpa [Instr.wellFormed] using h)

/-- A write to COMMAND takes a command: STATUS becomes BUSY, or the write is discarded (R165, R167). -/
theorem State.hostWrite_command (s : State) (word : Word) :
    ∃ busy, busy ≠ .idle ∧ s.hostWrite 2 word = .next (s.takeCommand busy) := by
  show ∃ busy, busy ≠ CommandStatus.idle ∧ exec (commandWrite word) s = .next (s.takeCommand busy)
  rcases commandWrite_cases word with ⟨entry, mem, _, eq⟩ | ⟨unknown, eq⟩ <;> rw [eq]
  · exact ⟨_, by simp, exec_take mem s⟩
  · exact ⟨_, by simp, exec_unknownCommand unknown s⟩

/-- The five kinds of write (R163): COMMAND, a parameter word, EVENTS, EVENT ENABLE, or a word whose
write is ignored. -/
theorem windowWrite_cases (number : Fin 32) (word : Word) :
    number = 2 ∧ windowWrite number word = commandWrite word ∨
    (∃ k : Fin 6, number.val = 3 + k.val ∧ windowWrite number word = .paramWrite k word) ∨
    number = 13 ∧ windowWrite number word = .eventsAcknowledge word ∨
    number = 14 ∧ windowWrite number word = .eventEnableWrite word ∨
    isWritableWord number = false ∧
      windowWrite number word = .ignoredRegisterWrite number word := by
  unfold windowWrite
  by_cases h2 : number.val = 2
  · exact Or.inl ⟨Fin.ext h2, if_pos h2⟩
  · rw [if_neg h2]
    by_cases hp : 3 ≤ number.val ∧ number.val ≤ 8
    · rw [dif_pos hp]
      exact Or.inr (Or.inl ⟨⟨number.val - 3, by omega⟩, by simp only; omega, rfl⟩)
    · rw [dif_neg hp]
      by_cases h13 : number.val = 13
      · exact Or.inr (Or.inr (Or.inl ⟨Fin.ext h13, if_pos h13⟩))
      · rw [if_neg h13]
        by_cases h14 : number.val = 14
        · exact Or.inr (Or.inr (Or.inr (Or.inl ⟨Fin.ext h14, if_pos h14⟩)))
        · refine Or.inr (Or.inr (Or.inr (Or.inr ⟨?_, if_neg h14⟩)))
          have : ¬ (2 ≤ number.val ∧ number.val ≤ 8) := by omega
          simpa [isWritableWord, h13, h14] using this

/-- A write of a parameter word (R166). -/
theorem windowWrite_param (k : Fin 6) {number : Fin 32} (h : number.val = 3 + k.val) (word : Word) :
    windowWrite number word = .paramWrite k word := by
  unfold windowWrite
  rw [if_neg (by omega), dif_pos (by omega)]
  congr 1
  exact Fin.ext (by simp only; omega)

/-- A write of a word that is read-only or unused (R163). -/
theorem windowWrite_ignored {number : Fin 32} (h : isWritableWord number = false) (word : Word) :
    windowWrite number word = .ignoredRegisterWrite number word := by
  rcases windowWrite_cases number word with ⟨rfl, _⟩ | ⟨k, hk, _⟩ | ⟨rfl, _⟩ | ⟨rfl, _⟩ | ⟨_, e⟩
  · cases h
  · simp [isWritableWord] at h
    omega
  · cases h
  · cases h
  · exact e

/-- A host write is a command of its row: its operands fit. -/
theorem windowWrite_wellFormed (number : Fin 32) (word : Word) :
    (windowWrite number word).wellFormed = true := by
  rcases windowWrite_cases number word with ⟨_, e⟩ | ⟨k, _, e⟩ | ⟨_, e⟩ | ⟨_, e⟩ | ⟨h, e⟩ <;> rw [e]
  · rcases commandWrite_cases word with ⟨entry, mem, _, e⟩ | ⟨unknown, e⟩ <;> rw [e]
    · simp only [commandTable, List.mem_append, List.mem_cons, List.not_mem_nil, or_false] at mem
      repeat' rcases mem with mem | mem
      all_goals rfl
    · simpa [Instr.wellFormed] using unknown
  all_goals first | rfl | simp [Instr.wellFormed, h]

end Sys2Proof.Machine
end

