-- ==== Sys2Proof/Laws/Operations.lean ====
section
/-! SUPPORT. What each shared operation can do: one lemma for each that lists its outcomes, each with
the condition in which it comes about. -/

namespace Sys2Proof.Machine

open Sys2Proof

variable (s : State)

/-- A request is taken when one waits and READY holds; otherwise nothing happens (R36). -/
theorem State.tryTake_cases (p : PortId) :
    s.tryTake p = s ∧ (s.ports[p].link.waiting = none ∨ s.ready p = false) ∨
      ∃ r, s.ports[p].link.waiting = some r ∧ s.ready p = true ∧
        s.tryTake p = s.updatePort p fun port => port.take r := by
  unfold State.tryTake
  split
  · next r h =>
    by_cases hr : s.ready p = true
    · exact Or.inr ⟨r, h, hr, by simp [hr]⟩
    · exact Or.inl ⟨by simp [hr], Or.inr (by simpa using hr)⟩
  · next h => exact Or.inl ⟨rfl, Or.inl h⟩

theorem Burst.isIdle_iff (b : Burst) : b.isIdle = true ↔ b = .idle := by
  cases b <;> simp [Burst.isIdle]

/-- READY names an ADMITTED, IDLE port in RUNNING with the reset input released (R35). -/
theorem State.ready_iff (p : PortId) :
    s.ready p = true ↔ s.ports[p].gate = .admitted ∧ s.ports[p].burst = .idle ∧
      s.chip.mode = .running ∧ s.chip.resetHeld = false := by
  simp [State.ready, Burst.isIdle_iff, and_assoc]

/-- The drain ends, or DRAINING goes on because a burst holds it (R131). -/
theorem State.endDrain_cases :
    s.endDrain = s ∧ (∀ t, s.engine.state = .draining t → s.drainHeld t.context = true) ∨
      ∃ t, s.engine.state = .draining t ∧ s.drainHeld t.context = false ∧
        s.endDrain = s.setEngineState (.running t t.job.initialWork) := by
  unfold State.endDrain
  split
  · next t h =>
    by_cases hd : s.drainHeld t.context = true
    · exact Or.inl ⟨by simp [hd], fun u hu => by rw [h] at hu; cases hu; exact hd⟩
    · exact Or.inr ⟨t, h, by simpa using hd, by simp [hd]⟩
  · next h => exact Or.inl ⟨rfl, fun t ht => by rw [h] at ht; cases ht⟩
  · next h => exact Or.inl ⟨rfl, fun t ht => by rw [h] at ht; cases ht⟩

/-- QUIET is reached, or the mode is not QUIESCING or the part not at rest (R182). -/
theorem State.reachQuiet_cases :
    s.reachQuiet = s ∧ (s.chip.mode = .quiescing → s.atRest = false) ∨
      (s.chip.mode = .quiescing ∧ s.atRest = true ∧
        s.reachQuiet = (s.setMode .quiet).updateFlags fun f => { f with quietReached := true }) := by
  unfold State.reachQuiet
  split
  · next h => exact Or.inr ⟨h.1, h.2, rfl⟩
  · next h => exact Or.inl ⟨rfl, fun hq => by simpa using fun hr => h ⟨hq, hr⟩⟩

/-- A decided fault is appended and answered while the queue has room, and stalls its port
otherwise (R115). -/
theorem State.decideFault_cases (p : PortId) (r : CurrentRequest) (record : FaultRecord) :
    (s.faults.records.length < 16 ∧
        s.decideFault p r record = (s.appendAndAnswer p record).settle) ∨
      (16 ≤ s.faults.records.length ∧ s.decideFault p r record = (s.stall p r record).settle) := by
  unfold State.decideFault
  by_cases h : s.faults.records.length < 16
  · exact Or.inl ⟨h, by simp [h]⟩
  · exact Or.inr ⟨not_lt.mp h, by simp [h]⟩

theorem Burst.isQueued_iff (b : Burst) : b.isQueued = true ↔ ∃ r segs, b = .queued r segs := by
  cases b <;> simp [Burst.isQueued]

theorem EngineState.isRequesting_iff (e : EngineState) :
    e.isRequesting = true ↔ ∃ t w, e = .running t w ∧ w.stage = some .requesting := by
  cases e <;> simp [EngineState.isRequesting]

/-- The rotation from POINTER names every requester (R100). -/
theorem Requester.mem_rotation (r q : Requester) : q ∈ r.rotation := by
  rcases r with p | _ <;> rcases q with x | _ <;> (try fin_cases p) <;> (try fin_cases x) <;> decide

/-- A grant is made to a requester that requests while HOLDER is FREE; otherwise HOLDER is not FREE
or no requester requests (R100). -/
theorem State.grant_cases :
    s.grant = s ∧ (s.memory.holder = .free → ∀ r, s.requests r = false) ∨
      ∃ r, s.memory.holder = .free ∧
        (s.memory.pointer.rotation.find? fun r => s.requests r) = some r ∧
        s.requests r = true ∧ s.grant = s.grantTo r := by
  unfold State.grant
  split
  · next h =>
    split
    · next r hr => exact Or.inr ⟨r, h, hr, by simpa using List.find?_some hr, rfl⟩
    · next hr =>
      refine Or.inl ⟨rfl, fun _ r => ?_⟩
      have := List.find?_eq_none.mp hr r (Requester.mem_rotation _ r)
      simpa using this
  · next h => exact Or.inl ⟨rfl, fun hf => absurd hf h⟩

/-- The grant to a port in QUEUED: MOVING, with segment 1 issued (R102). -/
theorem State.grantTo_port (p : PortId) (r : CurrentRequest) (segs : Segments)
    (h : s.ports[p].burst = .queued r segs) :
    s.grantTo (.port p) =
      State.setBurst
        { s with
          memory := s.memory.issue (.port p)
            (some (segmentTransaction r.direction s.ports[p].buffer 0 .one segs.first)) }
        p (.moving r segs) := by
  simp only [State.grantTo, h]

/-- The grant to the engine: its chunk IN FLIGHT (R103). -/
theorem State.grantTo_engine (t : Transfer) (w : Work) (h : s.engine.state = .running t w) :
    s.grantTo .engine =
      State.setEngineState
        { s with
          memory := s.memory.issue .engine (chunkTransaction t w s.engine.outcome.done) }
        (.running t { w with stage := some .inFlight }) := by
  simp only [State.grantTo, h]

/-- The head of the stall list is handed the room, or the list is empty (R119). -/
theorem State.handOff_cases :
    s.handOff = s ∧ s.faults.stalled = [] ∨
      ∃ p record rest, s.faults.stalled = (p, record) :: rest ∧
        s.handOff = State.settle
          (State.appendAndAnswer { s with faults := { s.faults with stalled := rest } } p record) := by
  unfold State.handOff
  split
  · next h => exact Or.inl ⟨rfl, h⟩
  · next p record rest h => exact Or.inr ⟨p, record, rest, h, rfl⟩

/-- The end of the transfer in progress (R141). -/
theorem State.endTransfer_of (result : OutcomeState) (t : Transfer)
    (h : s.engine.state.transfer = some t) :
    s.endTransfer result =
      ((((s.setEngineState .idle).updateContext t.context fun c =>
        { c with mark := .none }).updateOutcome fun o => { o with state := result }).updateFlags
          fun f => { f with transferEnd := true }).reachQuiet := by
  simp only [State.endTransfer, h]

end Sys2Proof.Machine
end

