-- ==== Sys2Proof/Laws/ResetInput.lean ====
section
/-! SUPPORT. The level of the reset input belongs to the board (R184): every shared operation keeps it,
and so does every command but the assertion and the release. -/

namespace Sys2Proof.Machine

open Sys2Proof

variable (s : State)

/-! ## Shared operations -/

@[simp] theorem State.reachQuiet_resetHeld : s.reachQuiet.chip.resetHeld = s.chip.resetHeld := by
  unfold State.reachQuiet
  split <;> rfl

@[simp] theorem State.settle_resetHeld : s.settle.chip.resetHeld = s.chip.resetHeld := by
  simp [State.settle]

@[simp] theorem State.decideFault_resetHeld (p : PortId) (r : CurrentRequest) (record : FaultRecord) :
    (s.decideFault p r record).chip.resetHeld = s.chip.resetHeld := by
  unfold State.decideFault
  split <;> simp

@[simp] theorem State.endTransfer_resetHeld (result : OutcomeState) :
    (s.endTransfer result).chip.resetHeld = s.chip.resetHeld := by
  unfold State.endTransfer
  split
  · rfl
  · simp

@[simp] theorem State.endWithError_resetHeld (start : Word) (n : Nat) :
    (s.endWithError start n).chip.resetHeld = s.chip.resetHeld := by
  simp [State.endWithError]

@[simp] theorem State.handOff_resetHeld : s.handOff.chip.resetHeld = s.chip.resetHeld := by
  unfold State.handOff
  split <;> simp

@[simp] theorem State.plainRead_resetHeld (i : Nat) :
    (s.plainRead i).chip.resetHeld = s.chip.resetHeld := by
  unfold State.plainRead
  split <;> rfl

@[simp] theorem State.readAndClear_resetHeld (i : Nat) :
    (s.readAndClear i).chip.resetHeld = s.chip.resetHeld := by
  unfold State.readAndClear
  repeat' split
  all_goals rfl

@[simp] theorem State.dumpAccess_resetHeld (clear : Bool) (i : Nat) :
    (s.dumpAccess clear i).chip.resetHeld = s.chip.resetHeld := by
  unfold State.dumpAccess
  split <;> simp

@[simp] theorem State.readAndMark_resetHeld (p : PortId) (i page : Nat) (direction : Direction) :
    (s.readAndMark p i page direction).chip.resetHeld = s.chip.resetHeld := by
  unfold State.readAndMark
  dsimp only
  repeat' split
  all_goals rfl

@[simp] theorem State.lookup_resetHeld (p : PortId) (i page : Nat) (direction : Direction) :
    (s.lookup p i page direction).chip.resetHeld = s.chip.resetHeld := by
  unfold State.lookup
  split
  · rfl
  · simp

@[simp] theorem State.watchCompare_resetHeld (p : PortId) (r : CurrentRequest) (segs : Segments) :
    (s.watchCompare p r segs).chip.resetHeld = s.chip.resetHeld := by
  have note : (s.noteMatches p r.direction segs).chip.resetHeld = s.chip.resetHeld := by
    unfold State.noteMatches
    repeat' split
    all_goals rfl
  unfold State.watchCompare
  split
  · simpa using note
  · simp

@[simp] theorem State.splitPages_resetHeld (p : PortId) (c : ContextId) (r : CurrentRequest) :
    (s.splitPages p c r).chip.resetHeld = s.chip.resetHeld := by
  unfold State.splitPages
  split <;> simp

@[simp] theorem State.openBurst_resetHeld (p : PortId) (r : CurrentRequest) :
    (s.openBurst p r).chip.resetHeld = s.chip.resetHeld := by
  unfold State.openBurst State.fenceCheck
  repeat' split
  all_goals simp

@[simp] theorem State.lookupPage_resetHeld (p : PortId) (c : ContextId) (r : CurrentRequest)
    (walk : Walk) : (s.lookupPage p c r walk).chip.resetHeld = s.chip.resetHeld := by
  unfold State.lookupPage State.passPage
  dsimp only
  repeat' split
  all_goals simp

@[simp] theorem State.answerSegment_resetHeld (p : PortId) (r : CurrentRequest) (segs : Segments)
    (which : PageIndex) (answer : MemoryAnswer) :
    (s.answerSegment p r segs which answer).chip.resetHeld = s.chip.resetHeld := by
  unfold State.answerSegment State.memoryFault State.finishBurst
  dsimp only
  repeat' split
  all_goals simp

@[simp] theorem State.answerLoad_resetHeld (t : Transfer) (w : Work) (tr : Transaction)
    (answer : MemoryAnswer) : (s.answerLoad t w tr answer).chip.resetHeld = s.chip.resetHeld := by
  unfold State.answerLoad
  split <;> simp

@[simp] theorem State.answerDump_resetHeld (t : Transfer) (w : Work) (clear : Bool) (tr : Transaction)
    (answer : MemoryAnswer) :
    (s.answerDump t w clear tr answer).chip.resetHeld = s.chip.resetHeld := by
  unfold State.answerDump State.acceptDump
  dsimp only
  repeat' split
  all_goals simp

@[simp] theorem State.continueLoad_resetHeld (t : Transfer) (w : Work) (rest : List ChunkImage) :
    (s.continueLoad t w rest).chip.resetHeld = s.chip.resetHeld := by
  unfold State.continueLoad
  repeat' split
  all_goals simp

@[simp] theorem State.readForDump_resetHeld (t : Transfer) (w : Work) (clear : Bool) :
    (s.readForDump t w clear).chip.resetHeld = s.chip.resetHeld := by
  unfold State.readForDump
  dsimp only
  split <;> simp

@[simp] theorem State.abort_resetHeld : s.abort.chip.resetHeld = s.chip.resetHeld := by
  unfold State.abort State.abortDump
  repeat' split
  all_goals simp

@[simp] theorem State.takeCommand_resetHeld (busy : CommandStatus) :
    (s.takeCommand busy).chip.resetHeld = s.chip.resetHeld := by
  unfold State.takeCommand
  repeat' split
  all_goals rfl

/-! ## Commands -/

/-- WAKE's takes keep chip control. -/
theorem foldTake_chip (ports : List PortId) :
    (ports.foldl (fun t p => t.tryTake p) s).chip = s.chip := by
  induction ports generalizing s with
  | nil => rfl
  | cons p rest ih => exact (ih _).trans (State.tryTake_chip s p)

/-- Every performance keeps the level of the reset input. -/
theorem performance_resetHeld :
    ∀ e ∈ hostPerformances, ∀ params, (e.2 params s).state.chip.resetHeld = s.chip.resetHeld := by
  have port : ∀ w act, (∀ p, (act p).state.chip.resetHeld = s.chip.resetHeld) →
      (withPort w s act).state.chip.resetHeld = s.chip.resetHeld := by
    intro w act h
    unfold withPort
    split
    · exact h _
    · rfl
  have start : ∀ c first count fence job,
      (performStart c first count fence job s).state.chip.resetHeld = s.chip.resetHeld := by
    intro c first count fence job
    unfold performStart performedOk performedFail
    repeat' split
    all_goals simp
  simp only [hostPerformances, List.forall_mem_cons]
  refine ⟨?_, ?_, ?_, ?_, ?_, ?_, ?_, ?_, ?_, ?_, ?_, ?_, ?_, ?_, ?_, ?_, ?_, ?_, ?_, ?_, ?_, ?_, ?_,
    ?_, ?_, by simp⟩ <;> intro params
  case refine_16 | refine_17 | refine_18 => exact start _ _ _ _ _
  all_goals
    simp only [performDefineContext, performDeleteContext, performReadContext, performEntryWrite,
      performProbe, performBindPort, performReleasePort, performSuspendPort, performAdmitPort,
      performReadPort, performFlushPort, performResumeHeld, performCancelHeld, performPopFault,
      performAbortTransfer, performSetWindow, performReadWindow, performQuiesce, performWake,
      performSetFrameLimit, performSoftReset, performedOk, performedFail]
    first
      | refine port _ _ fun p => ?_
      | skip
    repeat' split
    all_goals first | rfl | simp [foldTake_chip]

/-- Only the assertion and the release move the reset input. -/
theorem exec_resetHeld {c : Instr} {s t : State} (e : exec c s = .next t) :
    t.chip.resetHeld = s.chip.resetHeld ∨ t = s.pinReset ∨
      t = { s with chip := { s.chip with resetHeld := false } } := by
  refine exec_next_cases (P := fun t => t.chip.resetHeld = s.chip.resetHeld ∨ t = s.pinReset ∨
    t = { s with chip := { s.chip with resetHeld := false } }) e (Or.inl rfl) ?_ ?_ ?_ ?_ ?_ ?_ ?_ ?_ ?_ ?_
    ?_ ?_ ?_ ?_ ?_ ?_ ?_ ?_ ?_ ?_ ?_ ?_ ?_ ?_
  case refine_1 =>
    intro code perform event mem
    exact Or.inl (State.hostCommand_keeps (P := fun t => t.chip.resetHeld = s.chip.resetHeld) s code
      perform event rfl (fun u busy h => by simpa using h)
      fun u h _ => (performance_resetHeld u _ mem _).trans h)
  case refine_8 => exact fun _ => Or.inr (Or.inl rfl)
  case refine_9 => exact Or.inr (Or.inr rfl)
  all_goals
    intros
    refine Or.inl ?_
    first
      | rfl
      | simp
      | (split <;> simp)

end Sys2Proof.Machine
end

