-- ==== Sys2Proof/Tests/Slice0.lean ====
section
/-! SUPPORT. Tests of the model on small states: ill-formed terms refused, one step of every command
family with the values its rules give, and for every statement with hypotheses a state that meets them,
clause by clause, at the ends of the ranges. -/

namespace Sys2Proof.Tests

open Sys2Proof Sys2Proof.Machine

/-! ## Helpers -/

/-- The next state of a command. -/
def ran (c : Instr) (s : State) : Option State :=
  match exec c s with
  | .next t => some t
  | .fault _ => none
  | .refused _ => none

/-- The fault of a command. -/
def faultOf (c : Instr) (s : State) : Option Fault :=
  match exec c s with
  | .fault f => some f
  | .next _ => none
  | .refused _ => none

/-- The command is refused as ill-formed. -/
def isRefused (c : Instr) (s : State) : Bool :=
  match exec c s with
  | .refused .illFormed => true
  | .refused _ => false
  | .next _ => false
  | .fault _ => false

/-- The state with a host command taken. -/
def taken (s : State) (code : BitVec 8) (params : ParamWords) : State :=
  { s with command := { s.command with status := .taken code, latched := params } }

/-- The outcome and the result words that a performance leaves. -/
def outcome (c : Instr) (s : State) : Option (CommandOutcome × ResultWords) :=
  (ran c s).bind fun t =>
    match t.command.status with
    | .performed _ o r => some (o, r)
    | .idle => none
    | .taken _ => none

/-- The outcome alone. -/
def verdict (c : Instr) (s : State) : Option CommandOutcome := (outcome c s).map Prod.fst

/-- Two contexts, C0 at 0 with 2 pages and C15 read-only at 2047 with 1; P0 BOUND to C0 and ADMITTED;
entry 0 a page for reads and writes in frame 5, entry 1 a page for reads in the last frame. -/
def mapped : State :=
  { State.reset with
    store := ⟨[(0, ⟨⟨5#20, true, true, true, false, false⟩, .good⟩),
      (1, ⟨⟨0xFFFFF#20, true, true, false, true, false⟩, .good⟩)], none⟩
    contexts := (State.reset.contexts.set 0 ⟨true, 0, 2, false, 1, .none⟩).set 15
      ⟨true, 2047, 1, true, 0, .none⟩
    ports := State.reset.ports.set 0
      { Port.initial with binding := some 0, gate := .admitted } }

/-- A READ of one word at a logical address. -/
def readAt (address : Word) (length : BurstLength) : CurrentRequest := ⟨.read, address, length⟩

/-- One segment of one word in frame 5. -/
def segment5 : Segment := ⟨0x5000#32, 1, .one, 0, 5#20⟩

/-- A second segment of one word in frame 7. -/
def segment7 : Segment := ⟨0x7000#32, 1, .two, 1, 7#20⟩

/-- A burst of one segment, and one of two. -/
def single : Segments := ⟨segment5, none⟩
def double : Segments := ⟨segment5, some segment7⟩

/-- P0 with its burst HELD by W3. -/
def heldP0 : State := mapped.setBurst 0 (.held (readAt 0x0#32 2#7) double [3] .two)

/-- P0 QUEUED, and P0 MOVING with a transaction in flight. -/
def queuedP0 : State := mapped.setBurst 0 (.queued (readAt 0x0#32 1#7) single)
def movingP0 (segs : Segments) (r : CurrentRequest) (t : Transaction) : State :=
  { mapped.setBurst 0 (.moving r segs) with memory := ⟨.requester (.port 0), some t, .port 1⟩ }

/-- A fault record of P0 and a queue of `n` such records. -/
def record0 : FaultRecord := ⟨.bound, 0, some 0, .read, 0x2000#32, 1#7, some .one, none, none⟩
def fullQueue (n : Nat) (stalled : List (PortId × FaultRecord)) : FaultQueue :=
  ⟨(List.range n).map fun k => ⟨BitVec.ofNat 16 k, record0⟩, stalled, BitVec.ofNat 16 n⟩

/-- A transfer of C0's two pages, and the state in which it runs. -/
def transferOf (job : TransferJob) : Transfer := ⟨job, 0, 0, 2, false⟩
def running (job : TransferJob) (w : Work) : State :=
  { mapped with
    contexts := mapped.contexts.set 0 ⟨true, 0, 2, false, 1, .plain⟩
    engine := ⟨.running (transferOf job) w, false,
      ⟨.inProgress, some job.kind, 0, 0, 2, 0, 0, none⟩⟩ }

/-- The same with the engine's chunk transaction in flight. -/
def inFlight (job : TransferJob) (w : Work) (t : Transaction) : State :=
  { running job { w with stage := some .inFlight } with
    memory := ⟨.requester .engine, some t, .port 0⟩ }

/-! ## Ill-formed terms (WellFormed) -/

/-- A code that is known makes no UNKNOWN_COMMAND, whatever the bits above it. -/
theorem test_unknownCommand_of_known_code :
    Instr.wellFormed (.unknownCommand 0xABCDEF7F#32) = false ∧
      isRefused (.unknownCommand 0xABCDEF7F#32) State.reset = true ∧
      Instr.wellFormed (.unknownCommand 0x00001073#32) = true := by decide

/-- COMMAND, the parameter words, EVENTS and EVENT ENABLE are no ignored words. -/
theorem test_ignoredRegisterWrite_of_writable_word :
    ([2, 3, 8, 13, 14] : List (Fin 32)).all (fun n =>
      !Instr.wellFormed (.ignoredRegisterWrite n 0#32) &&
        isRefused (.ignoredRegisterWrite n 0#32) State.reset) = true ∧
    ([0, 1, 9, 12, 15, 31] : List (Fin 32)).all (fun n =>
      Instr.wellFormed (.ignoredRegisterWrite n 1#32) &&
        ran (.ignoredRegisterWrite n 1#32) State.reset == some State.reset) = true := by decide

/-- A READ carries no WRITE DATA, a WRITE carries LENGTH words. -/
theorem test_requestPresented_with_wrong_data :
    Instr.wellFormed (.requestPresented 0 ⟨.read, 0#32, 1#7, [1#32]⟩) = false ∧
      isRefused (.requestPresented 0 ⟨.read, 0#32, 1#7, [1#32]⟩) State.reset = true ∧
      Instr.wellFormed (.requestPresented 5 ⟨.write, 0#32, 2#7, [1#32]⟩) = false ∧
      isRefused (.requestPresented 5 ⟨.write, 0#32, 2#7, [1#32]⟩) State.reset = true ∧
      Instr.wellFormed (.requestPresented 5 ⟨.write, 0#32, 1#7, [1#32]⟩) = true := by decide

/-- An answer to a DUMP's chunk write carries no words. -/
theorem test_dumpChunkAnswer_with_words :
    Instr.wellFormed (.dumpChunkAnswer (.ok [0#32])) = false ∧
      isRefused (.dumpChunkAnswer (.ok [0#32])) State.reset = true ∧
      Instr.wellFormed (.dumpChunkAnswer (.ok [])) = true := by decide

/-! ## The queue and the stops -/

/-- A step runs the front command on the state with the queue's rest; an empty queue idles. -/
theorem test_step_takes_the_front :
    (match step { State.reset with pending := [.paramWrite 0 7#32, .wake .take] } with
      | .next t => t.command.params[0] == 7#32 && t.pending == [.wake .take]
      | .fault _ => false
      | .refused _ => false) = true ∧
    (match step State.reset with
      | .next t => t == State.reset
      | .fault _ => false
      | .refused _ => false) = true := by decide

/-- No table word spells a command, so `withFetchWord` leaves the state as it is. -/
theorem test_no_word_spells_a_command : State.reset.withFetchWord 32 0x10 = State.reset := by decide

/-- The faults of log 4: a second request on a link, and answers with another number of words. -/
theorem test_model_stops :
    (let s := mapped.updatePort 5 fun port =>
        { port with link := ⟨some ⟨.read, 0#32, 0#7, []⟩, []⟩ };
      faultOf (.requestPresented 5 ⟨.write, 0#32, 1#7, [1#32]⟩) s = some .linkOccupied) ∧
    faultOf (.portTransactionAnswer (.ok []))
      (movingP0 single (readAt 0#32 1#7) ⟨.read, 0x5000#32, 1, some .one, []⟩) =
        some .answerWords ∧
    faultOf (.portTransactionAnswer (.ok [0#32]))
      (movingP0 double ⟨.write, 0#32, 2#7⟩ ⟨.write, 0x7000#32, 1, some .two, [0#32]⟩) =
        some .answerWords ∧
    faultOf (.loadChunkAnswer (.ok [1#32, 2#32, 3#32]))
      (inFlight (.load 0x100#32) ⟨[], none, false⟩ ⟨.read, 0x100#32, 4, none, []⟩) =
        some .answerWords := by decide

/-! ## The command unit -/

/-- The take of every command: idle, busy, and with the reset input held. -/
theorem test_take_of_every_command :
    (Statements.hostCommands.all fun e =>
      (ran (e.2 .take) mapped).map (fun t => t.command.status) == some (.taken e.1) &&
      (ran (e.2 .take) (taken mapped 0x10#8 (Vector.replicate 6 0#32))).map
        (fun t => t.chip.flags.overrun) == some true &&
      (ran (e.2 .take) { mapped with chip := { mapped.chip with resetHeld := true } }).map
        (fun t => t.command.status) == some .idle) = true := by decide

/-- Every command has a performance; its completion makes the unit IDLE. -/
theorem test_performance_and_completion :
    (Statements.hostCommands.all fun e =>
      (ran (e.2 .perform) (taken mapped e.1 (Vector.replicate 6 0#32))).any fun t =>
        (ran .commandUnitCompletion t).any fun u =>
          u.command.lastCode == e.1 && u.command.outcome != .none &&
            u.command.status == .idle) = true := by decide

/-- The codes are the 25 of the table, and COMMAND decodes bits 0 to 7 alone. -/
theorem test_known_codes :
    Statements.hostCommands.map Prod.fst = knownCodes ∧ knownCodes.length = 25 ∧
      commandCode 0xFFFFFF10#32 = 0x10#8 := by decide

/-- A write to COMMAND picks each of the 25 commands by bits 0 to 7, whatever bits 8 to 31 are. -/
theorem test_commandWrite :
    (Statements.hostCommands.all fun e => ([0#32, 0xFFFFFF00#32, 0x12345600#32] : List Word).all fun high =>
      decide (commandWrite (high ||| e.1.setWidth 32) = e.2 .take)) = true ∧
    commandWrite 0x00001000#32 = .unknownCommand 0x00001000#32 := by decide

/-- The row that a write to each word of the window is. -/
theorem test_windowWrite :
    windowWrite 2 0x10#32 = .defineContext .take ∧ windowWrite 3 1#32 = .paramWrite 0 1#32 ∧
      windowWrite 8 1#32 = .paramWrite 5 1#32 ∧ windowWrite 13 1#32 = .eventsAcknowledge 1#32 ∧
      windowWrite 14 1#32 = .eventEnableWrite 1#32 ∧
      (([0, 1, 9, 12, 15, 31] : List (Fin 32)).all fun number =>
        decide (windowWrite number 1#32 = .ignoredRegisterWrite number 1#32)) = true := by decide

/-- PARAM0 and a READ CONTEXT written by the host: BUSY with code 12h and the parameter latched. -/
theorem test_hostWrite :
    (match mapped.hostWrite 3 7#32 with
      | .next t => match t.hostWrite 2 0xABCDEF12#32 with
        | .next u => some (u.command.status, u.command.latched[0])
        | .fault _ => none
        | .refused _ => none
      | .fault _ => none
      | .refused _ => none) = some (.taken 0x12#8, 7#32) := by decide

/-- UNKNOWN: code 00h and the code after the last of a group. -/
theorem test_unknown_code :
    (([0x00000000#32, 0xFFFFFF73#32, 0x00000080#32] : List Word).all fun word =>
      State.reset.command.status == .idle && !State.reset.chip.resetHeld &&
      (ran (.unknownCommand word) State.reset).any fun t =>
        (ran .commandUnitCompletion t).any fun u =>
          u.command.outcome == .unknown && u.command.lastCode == word.extractLsb' 0 8 &&
            !u.chip.flags.overrun) = true := by decide

/-- A write to COMMAND while BUSY latches OVERRUN; one in reset is ignored. -/
theorem test_busy_write :
    (ran (.discardedCommandWrite 0x10#32) (taken mapped 0x12#8 (Vector.replicate 6 0#32))).map
      (fun t => (t.chip.flags.overrun, t.command.status)) = some (true, .taken 0x12#8) ∧
    (let s : State := { mapped with chip := { mapped.chip with resetHeld := true } };
      ran (.discardedCommandWrite 0x10#32) s = some s) := by decide

/-- A parameter word, first and last, is read back and latched by the next take only. -/
theorem test_parameter_write :
    (([0, 5] : List (Fin 6)).all fun k =>
      (ran (.paramWrite k 0xFFFFFFFF#32) mapped).any fun t =>
        t.hostRead ⟨3 + k.val, by omega⟩ == 0xFFFFFFFF#32 && t.command.latched[k] == 0#32 &&
        ((ran (.probe .take) t).map fun u => u.command.latched[k]) == some 0xFFFFFFFF#32) =
          true := by decide

/-- While the reset input is held every write is ignored and every read returns zero. -/
theorem test_writes_in_reset :
    let s : State := { mapped with chip := { mapped.chip with resetHeld := true } }
    ran (.paramWrite 0 1#32) s = some s ∧ ran (.eventsAcknowledge 0x1F00#32) s = some s ∧
      ran (.eventEnableWrite 1#32) s = some s ∧ ran (.unknownCommand 0#32) s = some s ∧
      s.hostRead 0 = 0#32 ∧ mapped.hostRead 0 = 0x61600001#32 := by decide

/-! ## Events -/

/-- EVENTS: written bits clear their flags, the others stay. -/
theorem test_events_acknowledge :
    let s : State := { mapped with chip := { mapped.chip with flags := ⟨true, true, true, true, true⟩ } }
    (ran (.eventsAcknowledge 0x00001107#32) s).map (fun t => t.chip.flags) =
      some ⟨false, true, true, true, false⟩ := by decide

/-- EVENT ENABLE keeps its eight bits, and HINT follows a flag with its enable. -/
theorem test_event_enable_and_hint :
    (ran (.eventEnableWrite 0xFFFFFFFF#32) mapped).map (fun t => (t.hostRead 14, t.hint)) =
      some (0x00001F07#32, false) ∧
    (ran (.eventEnableWrite 0x4#32) heldP0).map (fun t => (t.hostRead 13, t.hint)) =
      some (0x4#32, true) := by decide

/-! ## Formats -/

/-- The status words at the ends of their ranges. -/
theorem test_status_words :
    let s : State := { mapped with
      store := { mapped.store with errorIndex := some 2047 }
      engine := ⟨.idle, false, ⟨.memoryError, some .dump, 15, 2047, 2048, 2048, 8, some 8#32⟩⟩
      command := { mapped.command with lastCode := 0x7F#8, outcome := .queueEmpty }
      chip := { mapped.chip with mode := .quiet, resetCause := .soft } }
    [0, 1, 2, 13, 15, 21, 22, 23].map s.hostRead =
      [0x61600001#32, 0x00000302#32, 0x0000107F#32, 0#32, 0x800007FF#32, 0x87FF8F24#32,
        0x08000800#32, 8#32] := by decide

/-- PORT SUMMARY, STALL ORDER, FAULT DEPTH and FAULT HEAD, filled and empty. -/
theorem test_port_and_fault_words :
    (let s : State := { heldP0 with
      faults := ⟨⟨0xFFFF#16, ⟨.memory, 5, some 15, .write, 0xFFFFFFFC#32, 127#7, some .two,
        some 2047, some 0xFFFFF#20⟩⟩ :: (fullQueue 15 []).records, [(5, record0)], 16#16⟩ };
      [16, 17, 18, 19, 20, 24, 25].map s.hostRead =
        [0x00000110#32, 0x5FDCFFFF#32, 0xFFFFFFFC#32, 0x87FF007F#32, 0x800FFFFF#32, 0x0000001B#32,
          0x00FFFFF5#32]) ∧
    ([16, 17, 18, 19, 20].map mapped.hostRead = [0#32, 0#32, 0#32, 0#32, 0#32]) ∧
    (let s : State := { mapped with
      faults := fullQueue 16 ([0, 1, 2, 3, 4, 5].map fun p => (p, record0)) };
      s.hostRead 16 = 0x00000610#32 ∧ s.hostRead 25 = 0x00543210#32) := by decide

/-- The result words of READ CONTEXT, READ PORT and READ WINDOW at the ends of their ranges. -/
theorem test_result_words :
    contextWords ⟨true, 2047, 2048, true, 6, .fenced⟩ = #v[0x263#32, 2047#32, 2048#32, 0#32] ∧
    portWords
      { Port.initial with
        binding := some 15, gate := .admitted
        burst := .held ⟨.write, 0xFFFFFFFC#32, 127#7⟩ single [0, 1, 2, 3] .one
        lookaside := (List.range 8).map fun k => ⟨k, k, ⟨0#20, true, true, true, true, true⟩⟩
        link := ⟨some ⟨.read, 0#32, 0#7, []⟩, []⟩ } =
      #v[0x7F78FF33#32, 0xFFFFFFFC#32, 0#32, 0#32] ∧
    windowWords ⟨true, 0xFFFFFFFC#32, 0xFFFFFFFC#32, true, true, 0x3F#6, .hold, 65535,
      some ⟨5, 0xFFFFFFFC#32, .write, 127#7⟩⟩ =
      #v[0xFFFFFFFF#32, 0xFFFFFFFF#32, 0xFFFFFF7F#32, 0xFFFFFFFF#32] ∧
    (let s : State := { mapped with
      ports := mapped.ports.set 5 { Port.initial with
        lookaside := [⟨0, 2047, ⟨0#20, true, false, false, false, false⟩⟩] } };
      probeWords 2047 ⟨⟨0xFFFFF#20, true, true, true, true, true⟩, .bad⟩ (s.copyHolders 2047) =
        #v[2047#32, 0x9F0FFFFF#32, 0x20#32, 0#32]) := by decide

/-! ## Contexts -/

/-- DEFINE CONTEXT: each check at its bound, and the record defined. -/
theorem test_defineContext :
    let run := fun (p : ParamWords) => outcome (.defineContext .perform) (taken mapped 0x10#8 p)
    run #v[16, 10, 1, 0, 0, 0] = some (.badParameter, zeroResults) ∧
    run #v[14, 10, 1, 2, 0, 0] = some (.badParameter, zeroResults) ∧
    run #v[15, 10, 1, 1, 0, 0] = some (.defined, zeroResults) ∧
    run #v[1, 10, 0, 1, 0, 0] = some (.range, zeroResults) ∧
    run #v[1, 2048, 1, 1, 0, 0] = some (.range, zeroResults) ∧
    run #v[1, 2, 2046, 1, 0, 0] = some (.overlap, #v[15#32, 0#32, 0#32, 0#32]) ∧
    run #v[1, 1, 2047, 1, 0, 0] = some (.overlap, zeroResults) ∧
    (∀ d : ContextId, mapped.contexts[d].lawful) ∧
    (ran (.defineContext .perform) (taken mapped 0x10#8 #v[1, 2, 2045, 1, 0, 0])).map
      (fun t => t.contexts[1]) = some ⟨true, 2, 2045, true, 0, .none⟩ := by decide

/-- DELETE CONTEXT: each check, and the record FREE. -/
theorem test_deleteContext :
    let run := fun (s : State) (c : Word) =>
      verdict (.deleteContext .perform) (taken s 0x11#8 #v[c, 0, 0, 0, 0, 0])
    run mapped 16 = some .badParameter ∧ run mapped 14 = some .notDefined ∧
    run mapped 0 = some .inUse ∧
    run (mapped.updateContext 15 fun c => { c with mark := .plain }) 15 = some .inUse ∧
    (ran (.deleteContext .perform) (taken mapped 0x11#8 #v[15, 0, 0, 0, 0, 0])).map
      (fun t => t.contexts[15]) = some Context.free := by decide

/-- READ CONTEXT, READ PORT and READ WINDOW: the last number and the one beyond. -/
theorem test_read_commands :
    outcome (.readContext .perform) (taken mapped 0x12#8 #v[15, 0, 0, 0, 0, 0]) =
      some (.ok, #v[3#32, 2047#32, 1#32, 0#32]) ∧
    verdict (.readContext .perform) (taken mapped 0x12#8 #v[16, 0, 0, 0, 0, 0]) =
      some .badParameter ∧
    outcome (.readPort .perform) (taken mapped 0x34#8 #v[5, 0, 0, 0, 0, 0]) =
      some (.ok, zeroResults) ∧
    verdict (.readPort .perform) (taken mapped 0x34#8 #v[6, 0, 0, 0, 0, 0]) = some .badParameter ∧
    outcome (.readWindow .perform) (taken mapped 0x61#8 #v[3, 0, 0, 0, 0, 0]) =
      some (.ok, #v[0#32, 1#32, 0#32, 0#32]) ∧
    verdict (.readWindow .perform) (taken mapped 0x61#8 #v[4, 0, 0, 0, 0, 0]) =
      some .badParameter := by decide

/-! ## The map store -/

/-- WRITE ENTRY: each check at its bound, and the entry written. -/
theorem test_writeEntry :
    let run := fun (p : ParamWords) => verdict (.writeEntry .perform) (taken mapped 0x20#8 p)
    run #v[16, 0, 0, 0, 0, 0] = some .badParameter ∧ run #v[14, 0, 0, 0, 0, 0] = some .notDefined ∧
    run #v[0, 2, 0, 0, 0, 0] = some .range ∧ run #v[0, 1, 1048576, 0, 0, 0] = some .badParameter ∧
    (ran (.writeEntry .perform) (taken mapped 0x20#8 #v[15, 0, 1048575, 0x15FFFFFF, 0, 0])).map
      (fun t => (t.store.entry 2047, t.store.entry 0)) =
      some (⟨⟨0xFFFFF#20, true, false, true, false, true⟩, .good⟩, mapped.store.entry 0) := by decide

/-- TEST ENTRY stores a BAD check; writing the power-on value takes the entry off the list. -/
theorem test_testEntry_and_canonical_form :
    (ran (.testEntry .perform) (taken mapped 0x21#8 #v[0, 1, 0, 0, 0, 0])).map
      (fun t => t.store.entry 1) = some ⟨⟨0#20, false, false, false, false, false⟩, .bad⟩ ∧
    (ran (.writeEntry .perform) (taken mapped 0x20#8 #v[0, 1, 0, 0, 0, 0])).map
      (fun t => t.store.entries.map Prod.fst) = some [0] := by decide

/-- PROBE: the checks, the result, and the discovery of a BAD check. -/
theorem test_probe :
    verdict (.probe .perform) (taken mapped 0x22#8 #v[16, 0, 0, 0, 0, 0]) = some .badParameter ∧
    verdict (.probe .perform) (taken mapped 0x22#8 #v[14, 0, 0, 0, 0, 0]) = some .notDefined ∧
    verdict (.probe .perform) (taken mapped 0x22#8 #v[0, 2, 0, 0, 0, 0]) = some .range ∧
    outcome (.probe .perform) (taken mapped 0x22#8 #v[0, 1, 0, 0, 0, 0]) =
      some (.ok, #v[1#32, 0x0B0FFFFF#32, 0#32, 0#32]) ∧
    (ran (.probe .perform) (taken { mapped with store :=
        ⟨[(2047, ⟨⟨0#20, false, false, false, false, false⟩, .bad⟩)], none⟩ }
          0x22#8 #v[15, 0, 0, 0, 0, 0])).map
      (fun t => (t.store.errorIndex, t.chip.flags.storeError)) = some (some 2047, true) := by decide

/-- The accesses at entry 0: a write, a plain read, a read-and-clear with a mark set and without. -/
theorem test_store_accesses :
    let touched := mapped.storeWrite 1 ⟨0#20, true, false, false, true, false⟩ .good
    (touched.readAndClear 1).store.entry 1 = ⟨⟨0#20, true, false, false, false, false⟩, .good⟩ ∧
    mapped.readAndClear 0 = mapped ∧ mapped.plainRead 0 = mapped ∧
    ((mapped.storeWrite 2047 ⟨0#20, true, false, false, true, true⟩ .bad).readAndClear 2047).store =
      ⟨mapped.store.entries ++ [(2047, ⟨⟨0#20, true, false, false, true, true⟩, .bad⟩)],
        some 2047⟩ := by decide

/-- A read-and-mark: passing for a WRITE; refused at the limit with a copy placed; BAD; INVALID. -/
theorem test_readAndMark :
    (let t := mapped.readAndMark 0 0 0 .write;
      t.store.entry 0 = ⟨⟨5#20, true, true, true, true, true⟩, .good⟩ ∧
        t.ports[0].lookaside = [⟨0, 0, ⟨5#20, true, true, true, true, true⟩⟩]) ∧
    (let s : State := { mapped with chip := { mapped.chip with frameLimit := 5 } };
      (s.readAndMark 0 0 0 .read).store = s.store ∧
        (s.readAndMark 0 0 0 .read).ports[0].lookaside.length = 1) ∧
    (let s := mapped.storeWrite 0 ⟨5#20, true, true, true, false, false⟩ .bad;
      (s.readAndMark 0 0 0 .read).store.errorIndex = some 0 ∧
        (s.readAndMark 0 0 0 .read).ports[0].lookaside = []) ∧
    mapped.readAndMark 0 2047 7 .read = mapped := by decide

/-- A mark removes the other ports' copies of the entry, and a full list drops its last copy. -/
theorem test_readAndMark_copies :
    let copy : Copy := ⟨0, 0, ⟨5#20, true, true, true, false, false⟩⟩
    let others : List Copy :=
      (List.range 8).map fun k => ⟨k + 1, k + 1, ⟨0#20, true, true, true, true, true⟩⟩
    let s := (mapped.updatePort 5 fun port => { port with lookaside := [copy] }).updatePort 0
      fun port => { port with lookaside := others }
    let t := s.readAndMark 0 0 0 .read
    t.ports[5].lookaside = [] ∧ t.ports[0].lookaside.map Copy.storeIndex = [0, 1, 2, 3, 4, 5, 6, 7] := by
  decide

/-! ## Ports and links -/

/-- BIND PORT: each check, and the binding. -/
theorem test_bindPort :
    let run := fun (s : State) (p c : Word) =>
      verdict (.bindPort .perform) (taken s 0x30#8 #v[p, c, 0, 0, 0, 0])
    run mapped 6 0 = some .badParameter ∧ run mapped 5 16 = some .badParameter ∧
    run mapped 0 15 = some .wrongState ∧
    run (mapped.setBurst 5 (.opening (readAt 0#32 1#7))) 5 15 = some .portBusy ∧
    run mapped 5 14 = some .notDefined ∧
    (ran (.bindPort .perform) (taken mapped 0x30#8 #v[5, 15, 0, 0, 0, 0])).map
      (fun t => (t.ports[5].binding, t.contexts[15].bindCount)) = some (some 15, 1) := by decide

/-- RELEASE PORT: each check, and the release. -/
theorem test_releasePort :
    let run := fun (s : State) (p : Word) =>
      verdict (.releasePort .perform) (taken s 0x31#8 #v[p, 0, 0, 0, 0, 0])
    run mapped 6 = some .badParameter ∧ run mapped 5 = some .wrongState ∧
    run heldP0 0 = some .portBusy ∧
    (ran (.releasePort .perform) (taken mapped 0x31#8 #v[0, 0, 0, 0, 0, 0])).map
      (fun t => (t.ports[0].binding, t.contexts[0].bindCount)) = some (none, 0) := by decide

/-- SUSPEND, ADMIT with a waiting request, and FLUSH; each on port 5 and on none. -/
theorem test_gate_and_flush :
    let waiting := mapped.updatePort 5 fun port =>
      { port with
        link := ⟨some ⟨.read, 4#32, 1#7, []⟩, []⟩
        lookaside := [⟨0, 0, ⟨5#20, true, true, true, true, true⟩⟩] }
    (ran (.admitPort .perform) (taken waiting 0x33#8 #v[5, 0, 0, 0, 0, 0])).map
      (fun t => (t.ports[5].gate, t.ports[5].burst)) = some (.admitted, .opening (readAt 4#32 1#7)) ∧
    (ran (.suspendPort .perform) (taken heldP0 0x32#8 #v[0, 0, 0, 0, 0, 0])).map
      (fun t => t.ports[0].gate) = some .suspended ∧
    (ran (.flushPort .perform) (taken waiting 0x35#8 #v[5, 0, 0, 0, 0, 0])).map
      (fun t => t.ports[5].lookaside) = some [] ∧
    verdict (.suspendPort .perform) (taken mapped 0x32#8 #v[6, 0, 0, 0, 0, 0]) =
      some .badParameter ∧
    verdict (.admitPort .perform) (taken mapped 0x33#8 #v[6, 0, 0, 0, 0, 0]) = some .badParameter ∧
    verdict (.flushPort .perform) (taken mapped 0x35#8 #v[6, 0, 0, 0, 0, 0]) =
      some .badParameter := by decide

/-- RESUME HELD and CANCEL HELD: each check, the grant that follows, and the WATCH record, from the
second segment and from the first. -/
theorem test_held_commands :
    verdict (.resumeHeld .perform) (taken mapped 0x36#8 #v[6, 0, 0, 0, 0, 0]) = some .badParameter ∧
    verdict (.resumeHeld .perform) (taken mapped 0x36#8 #v[0, 0, 0, 0, 0, 0]) = some .notHeld ∧
    (ran (.resumeHeld .perform) (taken heldP0 0x36#8 #v[0, 0, 0, 0, 0, 0])).map
      (fun t => (t.ports[0].burst, t.memory.holder)) =
      some (.moving (readAt 0#32 2#7) double, .requester (.port 0)) ∧
    verdict (.cancelHeld .perform) (taken mapped 0x37#8 #v[6, 0, 0, 0, 0, 0]) = some .badParameter ∧
    verdict (.cancelHeld .perform) (taken mapped 0x37#8 #v[5, 0, 0, 0, 0, 0]) = some .notHeld ∧
    (ran (.cancelHeld .perform) (taken heldP0 0x37#8 #v[0, 0, 0, 0, 0, 0])).map
      (fun t => (t.ports[0].burst, t.faults.records.map QueuedFault.record)) =
      some (.idle, [⟨.watch, 0, some 0, .read, 0#32, 2#7, some .two, some 1, some 7#20⟩]) ∧
    (ran (.cancelHeld .perform) (taken
        (mapped.setBurst 0 (.held (readAt 0#32 1#7) single [0] .one))
        0x37#8 #v[0, 0, 0, 0, 0, 0])).map
      (fun t => t.faults.records.map fun q => q.record.storeIndex) = some [some 0] := by decide

set_option maxRecDepth 4000 in
/-- A request is taken on a READY link, waits on another, and is withdrawn. -/
theorem test_request_on_link :
    mapped.ready 0 = true ∧ mapped.ready 5 = false ∧
    (ran (.requestPresented 0 ⟨.write, 8#32, 2#7, [1#32, 2#32]⟩) mapped).map
      (fun t => (t.ports[0].burst, t.ports[0].buffer[0], t.ports[0].buffer[1], t.ports[0].buffer[2])) =
      some (.opening ⟨.write, 8#32, 2#7⟩, 1#32, 2#32, 0#32) ∧
    (ran (.requestPresented 5 ⟨.read, 8#32, 0#7, []⟩) mapped).map
      (fun t => (t.ports[5].burst, t.ports[5].link.waiting.isSome)) = some (.idle, true) ∧
    ((ran (.requestPresented 5 ⟨.read, 8#32, 0#7, []⟩) mapped).bind (ran (.requestWithdrawn 5))) =
      some mapped ∧
    (let words := List.replicate 64 7#32;
      readWords (writeWords (Vector.replicate 64 0#32) 0 words) 0 64 = words ∧
        (writeWords (Vector.replicate 64 0#32) 63 [7#32])[62] = 0#32) := by decide

/-- An answer ends the burst, and a waiting request is taken in the same event, or stays. -/
theorem test_answer_and_take :
    let s := (mapped.setBurst 0 (.opening (readAt 0#32 1#7))).updatePort 0 fun port =>
      { port with link := ⟨some ⟨.read, 4#32, 1#7, []⟩, []⟩ }
    ((s.answer 0 (.done [])).ports[0].burst = .opening (readAt 4#32 1#7)) ∧
    (let t := s.updatePort 0 fun port => { port with gate := .suspended };
      (t.answer 0 (.done [])).ports[0].burst = .idle ∧
        (t.answer 0 (.done [])).ports[0].link.waiting.isSome = true) := by decide

/-! ## The fault queue -/

/-- With 15 records the fault is appended; with 16 the port stalls. -/
theorem test_append_or_stall :
    let s : State := mapped.setBurst 0 (.opening (readAt 0x2000#32 1#7))
    let t := State.decideFault { s with faults := fullQueue 15 [] } 0 (readAt 0x2000#32 1#7) record0
    let u := State.decideFault { s with faults := fullQueue 16 [] } 0 (readAt 0x2000#32 1#7) record0
    t.faults = fullQueue 16 [] ∧ t.ports[0].burst = .idle ∧
      t.ports[0].link.answers = [.refused (.fault .bound)] ∧
      u.faults = fullQueue 16 [(0, record0)] ∧ u.ports[0].burst = .stalled (readAt 0x2000#32 1#7) ∧
      u.ports[0].link.answers = [] := by decide

/-- POP FAULT: empty; with no port stalled; with one. -/
theorem test_popFault :
    let none6 : ParamWords := Vector.replicate 6 0#32
    let stalled := { mapped.setBurst 0 (.stalled (readAt 0x2000#32 1#7)) with
      faults := fullQueue 16 [(0, record0)] }
    verdict (.popFault .perform) (taken mapped 0x40#8 none6) = some .queueEmpty ∧
    outcome (.popFault .perform) (taken { mapped with faults := fullQueue 1 [] } 0x40#8 none6) =
      some (.ok, #v[0x30050000#32, 0x2000#32, 1#32, 0#32]) ∧
    (ran (.popFault .perform) (taken stalled 0x40#8 none6)).map (fun t =>
      (t.faults.records.map QueuedFault.seq == (List.range 16).map fun k => BitVec.ofNat 16 (k + 1),
        t.faults.stalled, t.ports[0].burst, t.ports[0].link.answers)) =
      some (true, [], .idle, [.refused (.fault .bound)]) := by decide

/-! ## Translation -/

/-- The kind of the fault that an event of P0 leaves at the tail of the queue. -/
def kindAfter (c : Instr) (s : State) : Option (Option FaultKind) :=
  (ran c s).map fun t => t.faults.records.getLast?.map fun q => q.record.kind

/-- The opening event: each fault at its bound, the top of the space, FENCED, and the walk begun. -/
theorem test_openingEvent :
    let openP0 := fun (s : State) (r : CurrentRequest) => s.setBurst 0 (.opening r)
    kindAfter (.openingEvent 5) (mapped.setBurst 5 (.opening (readAt 1#32 0#7))) =
      some (some .unbound) ∧
    kindAfter (.openingEvent 0) (openP0 mapped (readAt 1#32 0#7)) = some (some .misaligned) ∧
    kindAfter (.openingEvent 0) (openP0 mapped (readAt 0#32 0#7)) = some (some .length) ∧
    kindAfter (.openingEvent 0) (openP0 mapped (readAt 0#32 65#7)) = some (some .length) ∧
    kindAfter (.openingEvent 0)
      (openP0 (mapped.updateContext 0 fun c => { c with readOnly := true }) ⟨.write, 0#32, 64#7⟩) =
      some (some .readonly) ∧
    kindAfter (.openingEvent 0) (openP0 mapped (readAt 0x2000#32 1#7)) = some (some .bound) ∧
    kindAfter (.openingEvent 0) (openP0 mapped (readAt 0xFFFFFFFC#32 2#7)) = some (some .bound) ∧
    (ran (.openingEvent 0) (openP0 mapped (readAt 0xFFC#32 2#7))).map (fun t => t.ports[0].burst) =
      some (.walking (readAt 0xFFC#32 2#7) ⟨.two, .one, []⟩) ∧
    (ran (.openingEvent 0)
        (openP0 (mapped.updateContext 0 fun c => { c with mark := .fenced }) (readAt 0#32 64#7))).map
      (fun t => t.ports[0].burst) = some (.fenced (readAt 0#32 64#7)) := by decide

/-- The resumption event: the mark still FENCED, and lifted. -/
theorem test_resumptionEvent :
    let s := mapped.setBurst 0 (.fenced (readAt 0#32 64#7))
    (let f := s.updateContext 0 fun c => { c with mark := .fenced };
      ran (.resumptionEvent 0) f = some f) ∧
    (ran (.resumptionEvent 0) s).map (fun t => t.ports[0].burst) =
      some (.walking (readAt 0#32 64#7) ⟨.one, .one, []⟩) := by decide

/-- A page lookup that misses: each test's fault, and a burst of one page moved to the memory port. -/
theorem test_pageLookup_miss :
    let walk := fun (s : State) (r : CurrentRequest) => s.setBurst 0 (.walking r ⟨.one, .one, []⟩)
    let put := fun (f : Fields) (c : Check) => mapped.storeWrite 0 f c
    kindAfter (.pageLookup 0) (walk (put ⟨5#20, true, true, true, false, false⟩ .bad) (readAt 0#32 1#7)) =
      some (some .parity) ∧
    kindAfter (.pageLookup 0) (walk (put ⟨5#20, false, true, true, false, false⟩ .good) (readAt 0#32 1#7)) =
      some (some .invalid) ∧
    kindAfter (.pageLookup 0) (walk (put ⟨5#20, true, false, true, false, false⟩ .good) (readAt 0#32 1#7)) =
      some (some .noRead) ∧
    kindAfter (.pageLookup 0) (walk (put ⟨5#20, true, true, false, false, false⟩ .good) ⟨.write, 0#32, 1#7⟩) =
      some (some .noWrite) ∧
    kindAfter (.pageLookup 0)
      (walk { mapped with chip := { mapped.chip with frameLimit := 5 } } (readAt 0#32 1#7)) =
      some (some .limit) ∧
    (ran (.pageLookup 0) (walk mapped (readAt 8#32 1#7))).map
      (fun t => (t.ports[0].burst, t.memory.transaction)) =
      some (.moving (readAt 8#32 1#7) ⟨⟨0x5008#32, 1, .one, 0, 5#20⟩, none⟩,
        some ⟨.read, 0x5008#32, 1, some .one, []⟩) := by decide

/-- A hit moves its copy to the front; a copy without the mark a WRITE requires is no hit; page 1 of
two passes, page 2 ends the walk with two segments. -/
theorem test_pageLookup_hit_and_second_page :
    let copy0 : Copy := ⟨0, 0, ⟨5#20, true, true, true, true, false⟩⟩
    let copy1 : Copy := ⟨1, 1, ⟨0xFFFFF#20, true, true, false, true, false⟩⟩
    let s := mapped.updatePort 0 fun port => { port with lookaside := [copy1, copy0] }
    let r := readAt 0xFFC#32 2#7
    let first : PageResult := ⟨0, 0, 5#20, 1⟩
    (ran (.pageLookup 0) (s.setBurst 0 (.walking r ⟨.two, .one, []⟩))).map
      (fun t => (t.ports[0].lookaside, t.ports[0].burst, t.store)) =
      some ([copy0, copy1], .walking r ⟨.two, .two, [first]⟩, s.store) ∧
    (ran (.pageLookup 0) (s.setBurst 0 (.walking ⟨.write, 0#32, 1#7⟩ ⟨.one, .one, []⟩))).map
      (fun t => (t.store.entry 0).fields.dirty) = some true ∧
    (ran (.pageLookup 0) (s.setBurst 0 (.walking r ⟨.two, .two, [first]⟩))).map
      (fun t => t.ports[0].burst) =
      some (.moving r ⟨⟨0x5FFC#32, 1, .one, 0, 5#20⟩,
        some ⟨0xFFFFF000#32, 1, .two, 1, 0xFFFFF#20⟩⟩) ∧
    kindAfter (.pageLookup 0)
      ((s.updateContext 0 fun c => { c with pages := 1 }).setBurst 0 (.walking r ⟨.two, .one, []⟩)) =
      some (some .bound) := by decide

/-! ## The watch unit -/

/-- A window over the first segment's word, on reads of P0. -/
def window5 (action : WatchAction) (count : Nat) : Window :=
  ⟨true, 0x5000#32, 0x5000#32, true, false, 1#6, action, count, none⟩

/-- The compare: no match; a NOTE match on the first segment with the count at its stop; a HOLD match
on the second segment alone. -/
theorem test_watchCompare :
    let r := readAt 0xFFC#32 2#7
    let s := mapped.setBurst 0 (.walking r ⟨.two, .two, []⟩)
    let noted := State.watchCompare { s with windows := s.windows.set 0 (window5 .note 65535) } 0 r double
    let upper : Window := { window5 .hold 0 with low := 0x6000#32, high := 0x7000#32 }
    let held := State.watchCompare { s with windows := s.windows.set 3 upper } 0 r double
    (s.watchCompare 0 r double).windows = s.windows ∧
      (s.watchCompare 0 r double).chip.flags.watchNote = false ∧
    noted.chip.flags.watchNote = true ∧ noted.windows[0].hitCount = 65535 ∧
      noted.windows[0].lastHit = some ⟨0, 0x5000#32, .read, 2#7⟩ ∧
      noted.ports[0].burst = .moving r double ∧
    held.ports[0].burst = .held r double [3] .two ∧ held.chip.flags.watchNote = false ∧
      held.windows[3].lastHit = some ⟨0, 0x7000#32, .read, 2#7⟩ := by decide

/-- SET WINDOW: each check at its bound, and the window set. -/
theorem test_setWindow :
    let run := fun (p : ParamWords) => verdict (.setWindow .perform) (taken mapped 0x60#8 p)
    run #v[4, 0, 0, 1, 0, 0] = some .badParameter ∧ run #v[3, 0, 0, 0, 0, 0] = some .badParameter ∧
    run #v[3, 0, 0, 1, 2, 0] = some .badParameter ∧ run #v[3, 0, 0, 1, 0, 2] = some .badParameter ∧
    run #v[3, 0, 0, 0x4001, 0, 0] = some .badParameter ∧
    run #v[3, 0, 0, 0x8001, 0, 0] = some .badParameter ∧
    run #v[3, 1, 4, 1, 0, 0] = some .badParameter ∧ run #v[3, 0, 2, 1, 0, 0] = some .badParameter ∧
    run #v[3, 8, 4, 1, 0, 0] = some .badParameter ∧
    (ran (.setWindow .perform)
        (taken mapped 0x60#8 #v[3, 0xFFFFFFFC, 0xFFFFFFFC, 0x00003F02, 1, 1])).map
      (fun t => t.windows[3]) =
      some ⟨true, 0xFFFFFFFC#32, 0xFFFFFFFC#32, false, true, 0x3F#6, .hold, 0, none⟩ := by decide

/-! ## The memory port -/

/-- The grant: none while held, none without a request, in order from POINTER, and past the winner. -/
theorem test_grant :
    let work : Work := ⟨[], some .requesting, false⟩
    let both : State := { running (.load 0x100#32) work with
      ports := queuedP0.ports, memory := ⟨.free, none, .engine⟩ }
    mapped.grant = mapped ∧
    (let s : State := { queuedP0 with memory := ⟨.discarding, none, .port 0⟩ };
      s.grant = s) ∧
    both.grant.memory = ⟨.requester .engine, some ⟨.read, 0x100#32, 4, none, []⟩, .port 0⟩ ∧
    (State.grant { both with memory := ⟨.free, none, .port 0⟩ }).memory =
      ⟨.requester (.port 0), some ⟨.read, 0x5000#32, 1, some .one, []⟩, .port 1⟩ ∧
    (State.grant { both with memory := ⟨.free, none, .port 1⟩ }).memory.holder =
      .requester .engine ∧
    Statements.after (.port 5) = .engine ∧ Statements.turn (.port 1) (.port 0) = 6 := by decide

/-- The DUMP's chunk transaction: the images' words in run order. -/
theorem test_chunkTransactions :
    chunkTransaction (transferOf (.load 0x100#32)) ⟨[], none, false⟩ 1 =
      some ⟨.read, 0x108#32, 2, none, []⟩ ∧
    chunkTransaction (transferOf (.dump 0x100#32 true))
      ⟨[⟨0, 1#32, 2#32⟩, ⟨1, 3#32, 4#32⟩], some .requesting, false⟩ 0 =
      some ⟨.write, 0x100#32, 4, none, [1#32, 2#32, 3#32, 4#32]⟩ ∧
    chunkTransaction (transferOf (.fill ⟨0#20, true, true, true, false, false⟩)) ⟨[], none, false⟩ 0 =
      none := by decide

/-- Answers to a port: segment 2 issued; DONE with the words of both segments; a WRITE's DONE; ERROR. -/
theorem test_portTransactionAnswer :
    let r := readAt 0xFFC#32 2#7
    let one := movingP0 double r ⟨.read, 0x5000#32, 1, some .one, []⟩
    ((ran (.portTransactionAnswer (.ok [7#32])) one).map fun t => t.memory) =
      some ⟨.requester (.port 0), some ⟨.read, 0x7000#32, 1, some .two, []⟩, .port 1⟩ ∧
    (((ran (.portTransactionAnswer (.ok [7#32])) one).bind
      (ran (.portTransactionAnswer (.ok [8#32])))).map
        fun t => (t.ports[0].link.answers, t.ports[0].burst, t.memory.holder)) =
      some ([.done [7#32, 8#32]], .idle, .free) ∧
    ((ran (.portTransactionAnswer (.ok []))
        (movingP0 single ⟨.write, 0#32, 1#7⟩ ⟨.write, 0x5000#32, 1, some .one, [9#32]⟩)).map
      fun t => t.ports[0].link.answers) = some [.done []] ∧
    ((ran (.portTransactionAnswer .error)
        (movingP0 double r ⟨.read, 0x7000#32, 1, some .two, []⟩)).map
      fun t => (t.faults.records.map QueuedFault.record, t.memory.holder)) =
      some ([⟨.memory, 0, some 0, .read, 0xFFC#32, 2#7, some .two, some 1, some 7#20⟩], .free) := by
  decide

/-- The LATE TRANSACTION's answer and the one after a reset free the memory port. -/
theorem test_discarded_answers :
    let t : Transaction := ⟨.read, 0#32, 2, none, []⟩
    (ran (.lateAnswer .error) { mapped with
        engine := { mapped.engine with late := true }
        memory := ⟨.requester .engine, some t, .port 0⟩ }).map
      (fun u => (u.engine.late, u.memory)) = some (false, ⟨.free, none, .port 0⟩) ∧
    (ran (.discardedAnswer (.ok [])) { mapped with memory := ⟨.discarding, some t, .port 0⟩ }) =
      some mapped := by decide

/-! ## The transfer engine -/

/-- START DUMP and START LOAD: each check of R129 at its bound. -/
theorem test_start_checks :
    let run := fun (s : State) (p : ParamWords) =>
      verdict (.startDump .perform) (taken s 0x51#8 p)
    run (running (.load 0#32) ⟨[], none, false⟩) #v[0, 0, 2, 0, 0, 0] = some .engineBusy ∧
    run { mapped with chip := { mapped.chip with mode := .quiet } } #v[0, 0, 2, 0, 0, 0] =
      some .notRunning ∧
    run mapped #v[16, 0, 2, 0, 0, 0] = some .badParameter ∧
    run mapped #v[0, 0, 2, 0, 2, 0] = some .badParameter ∧
    run mapped #v[0, 0, 2, 0, 0, 2] = some .badParameter ∧
    run mapped #v[14, 0, 2, 0, 0, 0] = some .notDefined ∧
    run mapped #v[0, 0, 0, 0, 0, 0] = some .range ∧ run mapped #v[0, 1, 2, 0, 0, 0] = some .range ∧
    run mapped #v[0, 0, 2049, 0, 0, 0] = some .range ∧
    run mapped #v[0, 0, 2, 4, 0, 0] = some .badParameter ∧
    run mapped #v[0, 0, 2, 0xFFFFFFF8, 0, 0] = some .range ∧
    run { mapped with chip := { mapped.chip with frameLimit := 1 } } #v[0, 0, 2, 0xFF8, 0, 0] =
      some .range ∧
    run { mapped with chip := { mapped.chip with frameLimit := 1 } } #v[0, 0, 2, 0xFF0, 1, 1] =
      some .ok ∧
    verdict (.startLoad .perform) (taken mapped 0x50#8 #v[0, 0, 2, 0xFFFFFFF0, 1, 9]) = some .ok ∧
    verdict (.startFill .perform) (taken mapped 0x52#8 #v[0, 0, 2, 1048576, 0, 0]) =
      some .badParameter := by decide

/-- START FILL: a fenced transfer with a burst of the context at work drains; without one it runs. -/
theorem test_start_acts :
    (ran (.startFill .perform) (taken queuedP0 0x52#8 #v[0, 1, 1, 1048575, 0x01000000, 1])).map
      (fun t => (t.contexts[0].mark, t.engine.state)) =
      some (.fenced, .draining ⟨.fill ⟨0xFFFFF#20, true, false, false, false, false⟩, 0, 1, 1, true⟩) ∧
    (ran (.startDump .perform) (taken mapped 0x51#8 #v[0, 0, 2, 8, 1, 1])).map
      (fun t => (t.contexts[0].mark, t.engine.state, t.engine.outcome)) =
      some (.fenced, .running ⟨.dump 8#32 true, 0, 0, 2, true⟩ ⟨[], some .reading, false⟩,
        ⟨.inProgress, some .dump, 0, 0, 2, 0, 0, none⟩) := by decide

/-- The drain ends with the last burst of the context, and QUIET is reached with the last of all. -/
theorem test_drain_and_quiet :
    let t : Transfer := ⟨.load 0#32, 0, 0, 2, true⟩
    let draining (s : State) : State := { s with engine := { s.engine with state := .draining t } }
    (draining queuedP0).endDrain = draining queuedP0 ∧
    (draining (mapped.setBurst 0 (.fenced (readAt 0#32 1#7)))).endDrain.engine.state =
      .running t ⟨[], none, false⟩ ∧
    ((mapped.setMode .quiescing).reachQuiet.chip.mode = .quiet) ∧
    ((mapped.setMode .quiescing).reachQuiet.chip.flags.quietReached = true) ∧
    ((queuedP0.setMode .quiescing).reachQuiet = queuedP0.setMode .quiescing) ∧
    mapped.reachQuiet = mapped ∧ mapped.endDrain = mapped := by decide

/-- The end of a transfer, which may reach QUIET. -/
theorem test_transfer_end :
    let s := ((running (.load 0#32) ⟨[], none, false⟩).setMode .quiescing).endTransfer .aborted
    s.engine.state = .idle ∧ s.contexts[0].mark = .none ∧ s.engine.outcome.state = .aborted ∧
      s.chip.flags.transferEnd = true ∧ s.chip.mode = .quiet := by decide

/-- ABORT TRANSFER in every state of the engine. -/
theorem test_abortTransfer :
    let run := fun (s : State) =>
      (ran (.abortTransfer .perform) (taken s 0x53#8 (Vector.replicate 6 0#32))).map fun t =>
        (t.engine.state, t.engine.late)
    let image : ChunkImage := ⟨0, 1#32, 2#32⟩
    let dump := TransferJob.dump 0#32 true
    let draining : State := { mapped with
      engine := { mapped.engine with state := .draining (transferOf dump) } }
    verdict (.abortTransfer .perform) (taken mapped 0x53#8 (Vector.replicate 6 0#32)) =
      some .engineIdle ∧
    run draining = some (.idle, false) ∧
    run (running (.fill ⟨0#20, true, true, true, false, false⟩) ⟨[], none, false⟩) =
      some (.idle, false) ∧
    run (inFlight (.load 0#32) ⟨[], none, false⟩ ⟨.read, 0#32, 4, none, []⟩) = some (.idle, true) ∧
    run (running (.load 0#32) ⟨[image], some .writing, false⟩) = some (.idle, false) ∧
    run (running dump ⟨[], some .reading, false⟩) = some (.idle, false) ∧
    run (running dump ⟨[image], some .reading, false⟩) =
      some (.running (transferOf dump) ⟨[image], some .inFlight, true⟩, false) ∧
    run (running dump ⟨[image], some .requesting, false⟩) =
      some (.running (transferOf dump) ⟨[image], some .requesting, true⟩, false) ∧
    run (inFlight dump ⟨[image], none, false⟩ ⟨.write, 0#32, 2, none, [1#32, 2#32]⟩) =
      some (.running (transferOf dump) ⟨[image], some .inFlight, true⟩, false) := by decide

/-- A LOAD begins its chunk, takes the answer's images, or ends on ERROR. -/
theorem test_load_chunks :
    let s := inFlight (.load 0x100#32) ⟨[], none, false⟩ ⟨.read, 0x100#32, 4, none, []⟩
    (ran .loadChunkBegin (running (.load 0x100#32) ⟨[], none, false⟩)).map
      (fun t => t.memory.transaction) = some (some ⟨.read, 0x100#32, 4, none, []⟩) ∧
    (ran (.loadChunkAnswer (.ok [1#32, 2#32, 3#32, 4#32])) s).map
      (fun t => (t.engine.state, t.memory.holder)) =
      some (.running (transferOf (.load 0x100#32))
        ⟨[⟨0, 1#32, 2#32⟩, ⟨1, 3#32, 4#32⟩], some .writing, false⟩, .free) ∧
    (ran (.loadChunkAnswer .error) s).map
      (fun t => (t.engine.outcome.state, t.engine.outcome.failingAddress, t.engine.outcome.done)) =
      some (.memoryError, some 0x100#32, 0) := by decide

/-- LOAD writes an image's fields and asks for the next chunk, or goes on, or ends at COUNT; FILL
writes its value. -/
theorem test_engine_writes :
    let a : ChunkImage := ⟨0, 0xFF0FFFFF#32, 0#32⟩
    let load := TransferJob.load 0x100#32
    (ran .loadEntryWrite (running load ⟨[a], some .writing, false⟩)).map
      (fun t => (t.store.entry 0, t.engine.outcome.done, t.memory.transaction)) =
      some (⟨⟨0xFFFFF#20, true, true, true, true, true⟩, .good⟩, 1,
        some ⟨.read, 0x108#32, 2, none, []⟩) ∧
    (ran .loadEntryWrite (running load ⟨[a, a], some .writing, false⟩)).map
      (fun t => t.engine.state) = some (.running (transferOf load) ⟨[a], some .writing, false⟩) ∧
    (let s := (running load ⟨[a], some .writing, false⟩).raiseDone 1;
      (ran .loadEntryWrite s).map (fun t => (t.engine.outcome.state, t.engine.outcome.done)) =
        some (.complete, 2)) ∧
    (let fill := TransferJob.fill ⟨9#20, true, false, false, false, false⟩;
      (ran .fillEntryWrite (running fill ⟨[], none, false⟩)).map
        (fun t => (t.store.entry 0, t.engine.outcome.done)) =
        some (⟨⟨9#20, true, false, false, false, false⟩, .good⟩, 1) ∧
      (ran .fillEntryWrite ((running fill ⟨[], none, false⟩).raiseDone 1)).map
        (fun t => (t.engine.outcome.state, t.engine.state)) = some (.complete, .idle)) := by decide

/-- A DUMP reads an entry as it stood before the clearing, and asks for its write at the last. -/
theorem test_dump_reads :
    let s := running (.dump 0x100#32 true) ⟨[], some .reading, false⟩
    let one : ChunkImage := ⟨0, 0x07000005#32, 0#32⟩
    let two : ChunkImage := ⟨1, 0x0B0FFFFF#32, 1#32⟩
    (ran .dumpEntryRead s).map (fun t => t.engine.state) =
      some (.running (transferOf (.dump 0x100#32 true)) ⟨[one], some .reading, false⟩) ∧
    ((ran .dumpEntryRead s).bind (ran .dumpEntryRead)).map
      (fun t => ((t.store.entry 1).fields.touched, t.memory.transaction)) =
      some (false, some ⟨.write, 0x100#32, 4, none, wordsOfImages [one, two]⟩) := by decide

/-- The answers to a DUMP's chunk: COMPLETE at COUNT, ABORTED, reading on, and ERROR with and without
CLEAR-MARKS. -/
theorem test_dumpChunkAnswer :
    let image : ChunkImage := ⟨0, 1#32, 2#32⟩
    let t : Transaction := ⟨.write, 0x100#32, 2, none, [1#32, 2#32]⟩
    let s := fun (clear : Bool) (chunk : List ChunkImage) (abort : Bool) =>
      inFlight (.dump 0x100#32 clear) ⟨chunk, none, abort⟩ t
    let result := fun (a : MemoryAnswer) (u : State) =>
      (ran (.dumpChunkAnswer a) u).map fun v => (v.engine.outcome.state, v.engine.outcome.done)
    result (.ok []) (s false [image, image] true) = some (.complete, 2) ∧
    result (.ok []) (s false [image] true) = some (.aborted, 1) ∧
    result (.ok []) (s false [image] false) = some (.inProgress, 1) ∧
    (ran (.dumpChunkAnswer .error) (s true [image] false)).map
      (fun v => (v.engine.outcome.state, v.engine.outcome.marksLost, v.engine.outcome.failingAddress)) =
      some (.memoryError, 1, some 0x100#32) ∧
    (ran (.dumpChunkAnswer .error) (s false [image] false)).map
      (fun v => v.engine.outcome.marksLost) = some 0 := by decide

/-! ## Chip control and resets -/

/-- QUIESCE and WAKE in the modes that take them and in those that do not; WAKE's take. -/
theorem test_quiesce_and_wake :
    let none6 : ParamWords := Vector.replicate 6 0#32
    let quiet := mapped.setMode .quiet
    let waiting := quiet.updatePort 0 fun port =>
      { port with link := ⟨some ⟨.read, 4#32, 1#7, []⟩, []⟩ }
    (ran (.quiesce .perform) (taken mapped 0x70#8 none6)).map (fun t => t.chip.mode) = some .quiet ∧
    (ran (.quiesce .perform) (taken queuedP0 0x70#8 none6)).map (fun t => t.chip.mode) =
      some .quiescing ∧
    verdict (.quiesce .perform) (taken quiet 0x70#8 none6) = some .wrongState ∧
    verdict (.wake .perform) (taken mapped 0x71#8 none6) = some .wrongState ∧
    (ran (.wake .perform) (taken waiting 0x71#8 none6)).map
      (fun t => (t.chip.mode, t.ports[0].burst)) = some (.running, .opening (readAt 4#32 1#7)) := by
  decide

/-- SET FRAME LIMIT: each check at its bound, with RESULT0 the limit in force. -/
theorem test_setFrameLimit :
    let run := fun (s : State) (n : Word) =>
      outcome (.setFrameLimit .perform) (taken s 0x72#8 #v[n, 0, 0, 0, 0, 0])
    let quiet := mapped.setMode .quiet
    run mapped 1 = some (.notQuiet, #v[1048576, 0, 0, 0]) ∧
    run { quiet with memory := ⟨.discarding, none, .port 0⟩ } 1 =
      some (.notQuiet, #v[1048576, 0, 0, 0]) ∧
    run quiet 0 = some (.badParameter, #v[1048576, 0, 0, 0]) ∧
    run quiet 1048577 = some (.badParameter, #v[1048576, 0, 0, 0]) ∧
    run quiet 1048576 = some (.ok, #v[1048576, 0, 0, 0]) ∧ run quiet 1 = some (.ok, #v[1, 0, 0, 0]) := by
  decide

/-- SOFT RESET and a pin reset with a burst MOVING: REFUSED(RESET), DISCARDING; what each keeps. -/
theorem test_soft_and_pin_reset :
    let s := movingP0 single (readAt 0#32 1#7) ⟨.read, 0x5000#32, 1, some .one, []⟩
    (ran (.softReset .perform) (taken s 0x7F#8 (Vector.replicate 6 0#32))).map (fun t =>
      (t.ports[0].link.answers, t.memory.holder, t.memory.pointer, t.contexts[0], t.store)) =
      some ([.refused .reset], .discarding, .port 1, ⟨true, 0, 2, false, 0, .none⟩, s.store) ∧
    (ran .pinReset s).map (fun t =>
      (t.ports[0].link.answers, t.memory.pointer, t.contexts[0], t.store, t.chip.resetHeld)) =
      some ([.refused .reset], .port 0, Context.free, s.store, true) ∧
    ((ran .pinReset State.reset).bind (ran .pinResetRelease)).map (fun t => t.hostRead 1) =
      some 0x00000200#32 := by decide

/-- After the assertion the reset input is held with a burst's transaction DISCARDING: every block holds its
reset values and obeys the laws of waiting, and HINT is not asserted. -/
theorem test_held_at_reset :
    let t := (movingP0 single (readAt 0#32 1#7) ⟨.read, 0x5000#32, 1, some .one, []⟩).pinReset
    t.chip.resetHeld = true ∧ t.memory.holder = .discarding ∧ t.heldAtReset ∧ t.hint = false ∧
      t.WaitingLawful :=
  ⟨rfl, rfl, by decide, by decide, ⟨trivial, by decide, by decide, by decide, by decide⟩⟩

/-- A power-on reset of a state without requests gives the state after reset. -/
theorem test_powerOnReset : ran .powerOnReset mapped = some State.reset := by decide

/-! ## States that obey the laws -/

/-- The mapped state with a command waiting: a step is made from it. -/
theorem test_mapped_steps :
    (match step { mapped with pending := [.openingEvent 0] } with
      | .next _ => true
      | .fault _ => false
      | .refused _ => false) = true := by decide

/-- The mapped state obeys the law of the store and those of the context table. -/
theorem test_mapped_obeys_the_table_laws : mapped.store.wf ∧ mapped.TableLawful :=
  ⟨by decide, ⟨by decide, by decide, by decide, by decide, by decide, by decide⟩⟩

/-- P0 with a copy of entry 0, which is marked TOUCHED, obeys the laws of the lookaside buffers. -/
theorem test_copy_obeys_the_lookaside_laws : (mapped.readAndMark 0 0 0 .read).LookasideLawful := by
  refine ⟨⟨by decide, by decide, by decide, by decide, by decide, by decide⟩, ?_, ?_⟩ <;> intro p <;>
    fin_cases p
  any_goals exact trivial
  any_goals exact rfl
  show _ ∧ _ ∧ ∀ copy ∈ _, State.copyLawful _ _ copy
  decide

/-- P0 MOVING, as the grant leaves it, obeys the laws of the fault queue and of the memory port. -/
theorem test_moving_obeys_the_memory_laws : queuedP0.grant.FaultsLawful ∧
    queuedP0.grant.MemoryLawful := by
  have faults : queuedP0.grant.FaultsLawful :=
    ⟨by decide, fun k h => absurd (show k < 0 from h) (Nat.not_lt_zero k), by decide, by decide,
      by decide, by decide, by decide, by decide⟩
  refine ⟨faults, faults, by decide, by decide, by decide, by decide, by decide, ?_, trivial⟩
  intro p
  fin_cases p
  · exact ⟨_, rfl, rfl, Or.inl ⟨rfl, rfl, rfl⟩⟩
  all_goals exact trivial

/-- The same state obeys the laws behind R105 and the laws of waiting. -/
theorem test_moving_obeys_the_limit_and_waiting_laws : queuedP0.grant.LimitLawful ∧
    queuedP0.grant.WaitingLawful := by
  refine ⟨⟨by decide, by decide, ?_, ?_, fun t h => (nomatch h), trivial, by decide, ?_⟩,
    ⟨trivial, by decide, by decide, by decide, by decide⟩⟩
  · intro p
    fin_cases p <;> trivial
  · intro p segs h
    fin_cases p <;> cases h
    exact ⟨by decide, by decide⟩
  · intro t h
    cases h
    decide

/-- The premises of a rotation: POINTER just past P0, and the engine requesting. -/
theorem test_engine_asks_after_P0 :
    Statements.asks (running (.load 0x100#32) ⟨[], some .requesting, false⟩) .engine ∧
      Statements.after (.port 0) = .port 1 :=
  ⟨⟨_, _, rfl, rfl⟩, rfl⟩

end Sys2Proof.Tests
end

section
/-! PROOFS. The canonical form of the map store (log 8): what each event does to the store, and that
every step keeps the form. -/

namespace Sys2Proof.Machine

open Sys2Proof

variable (s : State)

/-! ## Events that leave the store as it is -/

@[simp] theorem State.splitPages_store (p : PortId) (c : ContextId) (r : CurrentRequest) :
    (s.splitPages p c r).store = s.store := by
  unfold State.splitPages
  split <;> simp

@[simp] theorem State.fenceCheck_store (p : PortId) (c : ContextId) (r : CurrentRequest) :
    (s.fenceCheck p c r).store = s.store := by
  unfold State.fenceCheck
  split <;> simp

@[simp] theorem State.openBurst_store (p : PortId) (r : CurrentRequest) :
    (s.openBurst p r).store = s.store := by
  unfold State.openBurst
  repeat' split
  all_goals simp

@[simp] theorem State.passPage_store (p : PortId) (c : ContextId) (r : CurrentRequest) (walk : Walk)
    (result : PageResult) : (s.passPage p c r walk result).store = s.store := by
  unfold State.passPage
  repeat' split
  all_goals simp

@[simp] theorem State.finishBurst_store (p : PortId) (r : CurrentRequest) :
    (s.finishBurst p r).store = s.store := by
  simp [State.finishBurst]

@[simp] theorem State.memoryFault_store (p : PortId) (r : CurrentRequest) (seg : Segment) :
    (s.memoryFault p r seg).store = s.store := by
  simp [State.memoryFault]

@[simp] theorem State.answerSegment_store (p : PortId) (r : CurrentRequest) (segs : Segments)
    (which : PageIndex) (answer : MemoryAnswer) :
    (s.answerSegment p r segs which answer).store = s.store := by
  unfold State.answerSegment
  dsimp only
  repeat' split
  all_goals simp

@[simp] theorem State.answerLoad_store (t : Transfer) (w : Work) (tr : Transaction)
    (answer : MemoryAnswer) : (s.answerLoad t w tr answer).store = s.store := by
  unfold State.answerLoad
  split <;> simp

@[simp] theorem State.acceptDump_store (t : Transfer) (w : Work) :
    (s.acceptDump t w).store = s.store := by
  unfold State.acceptDump
  dsimp only
  repeat' split
  all_goals simp

@[simp] theorem State.answerDump_store (t : Transfer) (w : Work) (clear : Bool) (tr : Transaction)
    (answer : MemoryAnswer) : (s.answerDump t w clear tr answer).store = s.store := by
  unfold State.answerDump
  split <;> simp

@[simp] theorem State.continueLoad_store (t : Transfer) (w : Work) (rest : List ChunkImage) :
    (s.continueLoad t w rest).store = s.store := by
  unfold State.continueLoad
  repeat' split
  all_goals simp

@[simp] theorem State.takeCommand_store (busy : CommandStatus) :
    (s.takeCommand busy).store = s.store := by
  rcases s.takeCommand_cases busy with eq | eq | ⟨_, _, eq⟩ <;> rw [eq]
  rfl

theorem foldTake_store (ports : List PortId) :
    (ports.foldl (fun t p => t.tryTake p) s).store = s.store := by
  induction ports generalizing s with
  | nil => rfl
  | cons p rest ih => exact (ih _).trans (State.tryTake_store s p)

/-! ## Events that access the store -/

/-- A page's lookup makes a read-and-mark on a miss, and no access on a hit (R65, R66). -/
theorem State.lookup_wf (p : PortId) (i page : Nat) (direction : Direction) (h : s.store.wf) :
    (s.lookup p i page direction).store.wf := by
  unfold State.lookup
  split
  · exact h
  · exact s.readAndMark_wf p i page direction h

theorem State.lookupPage_wf (p : PortId) (c : ContextId) (r : CurrentRequest) (walk : Walk)
    (h : s.store.wf) : (s.lookupPage p c r walk).store.wf := by
  have after := s.lookup_wf p (s.contexts[c].base + r.pageAt walk.currentPage)
    (r.pageAt walk.currentPage) r.direction h
  unfold State.lookupPage
  dsimp only
  split
  · rw [State.decideFault_store]; exact after
  · rw [State.passPage_store]; exact after

theorem State.writeRunEntry_wf (t : Transfer) (fields : Fields) (h : s.store.wf) :
    (s.writeRunEntry t fields).store.wf :=
  s.storeWrite_wf _ fields .good h

theorem State.dumpAccess_wf (clear : Bool) (i : Nat) (h : s.store.wf) :
    (s.dumpAccess clear i).store.wf := by
  unfold State.dumpAccess
  split
  · exact s.readAndClear_wf i h
  · exact s.plainRead_wf i h

theorem State.readForDump_wf (t : Transfer) (w : Work) (clear : Bool) (h : s.store.wf) :
    (s.readForDump t w clear).store.wf := by
  have read := s.dumpAccess_wf clear (s.runIndex t (s.engine.outcome.done + w.chunk.length)) h
  unfold State.readForDump
  dsimp only
  split
  · exact read
  · rw [State.requestChunk_store]; exact read

/-! ## Performances -/

theorem withPort_store (w : Word) (act : PortId → Performed)
    (h : ∀ p, (act p).state.store = s.store) : (withPort w s act).state.store = s.store := by
  unfold withPort
  split
  · exact h _
  · rfl

theorem performStart_store (context firstPage count : Word) (fence : Option Bool)
    (job : Option TransferJob) :
    (performStart context firstPage count fence job s).state.store = s.store := by
  unfold performStart
  repeat' split
  all_goals simp [performedOk, performedFail]

/-- WRITE ENTRY and TEST ENTRY keep the canonical form: a failed check changes nothing, and the write
is one access (R14, R15). -/
theorem performEntryWrite_wf (check : Check) (params : ParamWords) (h : s.store.wf) :
    (performEntryWrite check params s).state.store.wf := by
  unfold performEntryWrite
  repeat' split
  · exact h
  · exact h
  · exact s.storeWrite_wf _ _ check h

theorem performProbe_wf (params : ParamWords) (h : s.store.wf) :
    (performProbe params s).state.store.wf := by
  unfold performProbe
  split
  · exact h
  · exact s.plainRead_wf _ h

/-- The performances of every command but WRITE ENTRY, TEST ENTRY and PROBE leave the store as it
is. -/
theorem performance_store : ∀ e ∈ hostPerformances, e.1 ∉ [0x20#8, 0x21#8, 0x22#8] →
    ∀ params, (e.2 params s).state.store = s.store := by
  simp only [hostPerformances, List.forall_mem_cons]
  refine ⟨?_, ?_, ?_, fun h => absurd h (by decide), fun h => absurd h (by decide),
    fun h => absurd h (by decide), ?_, ?_, ?_, ?_, ?_, ?_, ?_, ?_, ?_, ?_, ?_, ?_, ?_, ?_, ?_, ?_, ?_,
    ?_, ?_, by simp⟩ <;> intro _ params
  case refine_4 | refine_5 | refine_6 | refine_7 | refine_8 | refine_9 | refine_10 | refine_11 =>
    refine withPort_store s _ _ fun p => ?_
    repeat' split
    all_goals simp [performedOk, performedFail]
  case refine_13 | refine_14 | refine_15 => exact performStart_store s _ _ _ _ _
  all_goals
    simp only [performDefineContext, performDeleteContext, performReadContext, performPopFault,
      performAbortTransfer, performSetWindow, performReadWindow, performQuiesce, performWake,
      performSetFrameLimit, performSoftReset, performedOk, performedFail]
    repeat' split
    all_goals simp [foldTake_store, State.softReset]

/-- Every performance keeps the canonical form: three commands access the store, the others leave it
as it is. -/
theorem performance_wf {code : BitVec 8} {perform : ParamWords → State → Performed}
    (mem : (code, perform) ∈ hostPerformances) (params : ParamWords) (h : s.store.wf) :
    (perform params s).state.store.wf := by
  by_cases entry : code ∈ [0x20#8, 0x21#8, 0x22#8]
  · simp only [List.mem_cons, List.not_mem_nil, or_false] at entry
    rcases entry with rfl | rfl | rfl
    · obtain rfl : perform = performEntryWrite .good := by simpa [hostPerformances] using mem
      exact performEntryWrite_wf s .good params h
    · obtain rfl : perform = performEntryWrite .bad := by simpa [hostPerformances] using mem
      exact performEntryWrite_wf s .bad params h
    · obtain rfl : perform = performProbe := by simpa [hostPerformances] using mem
      exact performProbe_wf s params h
  · rw [performance_store s _ mem entry params]
    exact h

/-! ## Every command, every step -/

/-- Every command keeps the canonical form. -/
theorem exec_wf {c : Instr} {s t : State} (h : s.store.wf) (e : exec c s = .next t) :
    t.store.wf := by
  refine exec_next_cases (P := fun t => t.store.wf) e h ?host ?unknown ?overrun ?param ?acknowledge
    ?enable ?powerOn ?pin ?release ?present ?withdraw ?opening ?lookup ?resume ?segment ?loadChunk
    ?dumpChunk ?late ?discard ?loadBegin ?loadWrite ?fillWrite ?dumpRead ?complete
  case host =>
    intro code perform event mem
    exact s.hostCommand_keeps code perform event h
      (fun u busy hu => by rw [State.takeCommand_store]; exact hu)
      fun u hu _ => performance_wf u mem _ hu
  case powerOn => exact State.reset_store_wf
  case pin => exact fun _ => h
  case lookup => exact fun p r walk b _ _ => s.lookupPage_wf p b r walk h
  case loadWrite =>
    intro t w a image rest _ _ _ _
    rw [State.continueLoad_store]
    exact s.writeRunEntry_wf t _ h
  case fillWrite =>
    intro t w value _ _
    have written := s.writeRunEntry_wf t value h
    split
    · rw [State.endTransfer_store]; exact written
    · exact written
  case dumpRead => exact fun t w a clear _ _ _ => s.readForDump_wf t w clear h
  all_goals
    intros
    simpa using h

end Sys2Proof.Machine

namespace Sys2Proof.Proofs

open Sys2Proof.Machine

/-- Settles O53: the command taken from the queue runs on the same store, and every command keeps the
canonical form. -/
theorem storeStaysCanonical : Obligations.StoreStaysCanonical := by
  intro s t h e
  unfold step at e
  split at e
  · cases e; exact h
  · next c rest _ => exact exec_wf (s := { s with pending := rest }) h e

end Sys2Proof.Proofs
end

section
/-! PROOFS. The store accesses (sections 1.2 and 1.4): what a write, a plain read, a read-and-clear and
a read-and-mark do to the entries, the lists of copies and the rest of the state. -/

namespace Sys2Proof.Machine

open Sys2Proof Sys2Proof.Statements

variable (s : State)

/-! ## The write (R7, R89) -/

theorem State.storeWrite_entry_same (i : Nat) (fields : Fields) (check : Check) (h : i < 2048) :
    (s.storeWrite i fields check).store.entry i = ⟨fields, check⟩ :=
  s.store.entry_put_same i _ h

theorem State.storeWrite_entry_other (i j : Nat) (fields : Fields) (check : Check) (h : j ≠ i) :
    (s.storeWrite i fields check).store.entry j = s.store.entry j :=
  s.store.entry_put_other i j _ h.symm

@[simp] theorem State.storeWrite_errorIndex (i : Nat) (fields : Fields) (check : Check) :
    (s.storeWrite i fields check).store.errorIndex = s.store.errorIndex :=
  s.store.put_errorIndex i _

theorem State.storeWrite_port (i : Nat) (fields : Fields) (check : Check) (q : PortId) :
    (s.storeWrite i fields check).ports[q] = s.ports[q].dropCopies i :=
  State.removeCopies_get _ i none q

/-- A write changes the store and the lists of copies alone. -/
theorem State.storeWrite_frame (i : Nat) (fields : Fields) (check : Check) :
    s.storeWrite i fields check =
      { s with
        store := (s.storeWrite i fields check).store
        ports := (s.storeWrite i fields check).ports } :=
  rfl

/-! ## The reads (R4, R8) -/

theorem State.plainRead_good (i : Nat) (h : (s.store.entry i).check = .good) :
    s.plainRead i = s := by
  simp [State.plainRead, h]

theorem State.plainRead_bad (i : Nat) (h : (s.store.entry i).check = .bad) :
    s.plainRead i = s.discoverBad i := by
  simp [State.plainRead, h]

theorem State.readAndClear_bad (i : Nat) (h : (s.store.entry i).check = .bad) :
    s.readAndClear i = s.discoverBad i := by
  simp [State.readAndClear, h]

theorem State.readAndClear_unmarked (i : Nat) (h : (s.store.entry i).check = .good)
    (touched : (s.store.entry i).fields.touched = false)
    (dirty : (s.store.entry i).fields.dirty = false) : s.readAndClear i = s := by
  simp [State.readAndClear, h, touched, dirty]

/-- With a mark set, a read-and-clear is a write of the entry less its marks (R8). -/
theorem State.readAndClear_marked (i : Nat) (h : (s.store.entry i).check = .good)
    (mark : (s.store.entry i).fields.touched = true ∨ (s.store.entry i).fields.dirty = true) :
    s.readAndClear i =
      s.storeWrite i { (s.store.entry i).fields with touched := false, dirty := false } .good := by
  simp [State.readAndClear, h, mark]

/-! ## The four tests (R5, R67) -/

theorem ite_some_eq_none_iff {α : Type} (c : Prop) [Decidable c] (x : α) (rest : Option α) :
    (if c then some x else rest) = none ↔ ¬ c ∧ rest = none := by
  split <;> simp [*]

theorem Check.not_bad_iff (c : Check) : ¬ c = .bad ↔ c = .good := by
  cases c <;> simp

theorem pageFault_eq_none_iff (e : MapEntry) (direction : Direction) (limit : Nat) :
    pageFault e direction limit = none ↔ passes e direction limit := by
  simp [pageFault, passes, ite_some_eq_none_iff, Check.not_bad_iff]

theorem pageFault_of_bad (e : MapEntry) (direction : Direction) (limit : Nat) (h : e.check = .bad) :
    pageFault e direction limit = some .parity := by
  simp [pageFault, h]

theorem pageFault_of_invalid (e : MapEntry) (direction : Direction) (limit : Nat)
    (good : e.check = .good) (invalid : e.fields.valid = false) :
    pageFault e direction limit = some .invalid := by
  simp [pageFault, good, invalid]

/-- A VALID entry with a GOOD check that fails a test fails on READ, WRITE or the limit. -/
theorem pageFault_of_refused (e : MapEntry) (direction : Direction) (limit : Nat)
    (good : e.check = .good) (valid : e.fields.valid = true) (refused : ¬ passes e direction limit) :
    pageFault e direction limit = some .noRead ∨ pageFault e direction limit = some .noWrite ∨
      pageFault e direction limit = some .limit := by
  rw [← pageFault_eq_none_iff] at refused
  simp only [pageFault, good, valid, reduceCtorEq, Bool.true_eq_false, if_false] at refused ⊢
  by_cases read : direction = .read ∧ e.fields.read = false
  · exact Or.inl (if_pos read)
  · by_cases write : direction = .write ∧ e.fields.write = false
    · exact Or.inr (Or.inl ((if_neg read).trans (if_pos write)))
    · rw [if_neg read, if_neg write] at refused ⊢
      by_cases limited : limit ≤ e.fields.frame.toNat
      · exact Or.inr (Or.inr (if_pos limited))
      · exact absurd (if_neg limited) refused

/-! ## The outcomes of a read-and-mark (R5, R6, R87) -/

/-- The state with an entry's fields replaced by marked ones, and every other port's copy of it
removed (R6). -/
def State.writeMarked (p : PortId) (i : Nat) (fields : Fields) : State :=
  State.removeCopies { s with store := s.store.put i ⟨fields, .good⟩ } i (some p)

section Outcomes

variable {s} {p : PortId} {i page : Nat} {direction : Direction} {e : MapEntry}

theorem State.readAndMark_bad (he : s.store.entry i = e) (bad : e.check = .bad) :
    s.readAndMark p i page direction = s.discoverBad i := by
  simp only [State.readAndMark, he, pageFault_of_bad e _ _ bad]

theorem State.readAndMark_invalid (he : s.store.entry i = e) (good : e.check = .good)
    (invalid : e.fields.valid = false) : s.readAndMark p i page direction = s := by
  simp only [State.readAndMark, he, pageFault_of_invalid e _ _ good invalid]

/-- A VALID entry that fails a later test is copied as it stands (R87). -/
theorem State.readAndMark_refused (he : s.store.entry i = e) (good : e.check = .good)
    (valid : e.fields.valid = true) (refused : ¬ passes e direction s.chip.frameLimit) :
    s.readAndMark p i page direction = s.placePortCopy p ⟨page, i, e.fields⟩ := by
  rcases pageFault_of_refused e _ _ good valid refused with h | h | h <;>
    simp only [State.readAndMark, he, h]

theorem State.readAndMark_passes (he : s.store.entry i = e)
    (pass : passes e direction s.chip.frameLimit) :
    s.readAndMark p i page direction =
      if e.fields.marked direction = e.fields then s.placePortCopy p ⟨page, i, e.fields⟩
      else (s.writeMarked p i (e.fields.marked direction)).placePortCopy p
        ⟨page, i, e.fields.marked direction⟩ := by
  simp only [State.readAndMark, he, (pageFault_eq_none_iff e _ _).mpr pass, State.writeMarked]

/-- The outcomes of a read-and-mark: the discovery; nothing, for an entry not VALID; the port's copy
placed, when a later test fails or the marks stand already; or the marks written, the other ports'
copies removed and the port's copy placed. -/
theorem State.readAndMark_cases (p : PortId) (page : Nat) (direction : Direction)
    (he : s.store.entry i = e) :
    (e.check = .bad ∧ s.readAndMark p i page direction = s.discoverBad i) ∨
    (e.check = .good ∧ e.fields.valid = false ∧ s.readAndMark p i page direction = s) ∨
    (e.check = .good ∧ e.fields.valid = true ∧
      (passes e direction s.chip.frameLimit → e.fields.marked direction = e.fields) ∧
      s.readAndMark p i page direction = s.placePortCopy p ⟨page, i, e.fields⟩) ∨
    (passes e direction s.chip.frameLimit ∧ e.fields.marked direction ≠ e.fields ∧
      s.readAndMark p i page direction =
        (s.writeMarked p i (e.fields.marked direction)).placePortCopy p
          ⟨page, i, e.fields.marked direction⟩) := by
  by_cases pass : passes e direction s.chip.frameLimit
  · have ⟨good, valid, _⟩ := pass
    by_cases same : e.fields.marked direction = e.fields
    · exact Or.inr (Or.inr (Or.inl ⟨good, valid, fun _ => same,
        (State.readAndMark_passes he pass).trans (if_pos same)⟩))
    · exact Or.inr (Or.inr (Or.inr ⟨pass, same,
        (State.readAndMark_passes he pass).trans (if_neg same)⟩))
  · by_cases bad : e.check = .bad
    · exact Or.inl ⟨bad, State.readAndMark_bad he bad⟩
    · have good := (Check.not_bad_iff _).mp bad
      cases valid : e.fields.valid
      · exact Or.inr (Or.inl ⟨good, rfl, State.readAndMark_invalid he good valid⟩)
      · exact Or.inr (Or.inr (Or.inl ⟨good, rfl, fun h => absurd h pass,
          State.readAndMark_refused he good valid pass⟩))

end Outcomes

/-! ## What each outcome does to the entries and the ports -/

@[simp] theorem State.writeMarked_store (p : PortId) (i : Nat) (fields : Fields) :
    (s.writeMarked p i fields).store = s.store.put i ⟨fields, .good⟩ := rfl

@[simp] theorem State.writeMarked_chip (p : PortId) (i : Nat) (fields : Fields) :
    (s.writeMarked p i fields).chip = s.chip := rfl

theorem State.writeMarked_port (p : PortId) (i : Nat) (fields : Fields) (q : PortId) :
    (s.writeMarked p i fields).ports[q] =
      if p = q then s.ports[q] else s.ports[q].dropCopies i :=
  (State.removeCopies_get _ i (some p) q).trans (if_congr (by simp) rfl rfl)

theorem State.placePortCopy_port (p : PortId) (c : Copy) (q : PortId) :
    (s.placePortCopy p c).ports[q] =
      if p = q then { s.ports[q] with lookaside := placeCopy s.ports[q].lookaside c }
      else s.ports[q] :=
  s.updatePort_get p q _

/-! ## The read-and-mark, clause by clause -/

section Clauses

variable {s} {p : PortId} {i page : Nat} {direction : Direction} {e : MapEntry}

/-- When the four tests pass the entry gains its marks (R5). -/
theorem State.readAndMark_entry_passes (hi : i < 2048) (he : s.store.entry i = e)
    (pass : passes e direction s.chip.frameLimit) :
    (s.readAndMark p i page direction).store.entry i = ⟨e.fields.marked direction, .good⟩ := by
  rw [State.readAndMark_passes he pass]
  split
  · next same => rw [State.placePortCopy_store, he, same, ← pass.1]
  · exact s.store.entry_put_same i _ hi

/-- When a test fails the entry is unchanged (R5). -/
theorem State.readAndMark_entry_refused (he : s.store.entry i = e)
    (refused : ¬ passes e direction s.chip.frameLimit) :
    (s.readAndMark p i page direction).store.entry i = e := by
  rcases State.readAndMark_cases p page direction he with
    ⟨_, eq⟩ | ⟨_, _, eq⟩ | ⟨_, _, _, eq⟩ | ⟨pass, _⟩
  · rw [eq]; exact he
  · rw [eq]; exact he
  · rw [eq]; exact he
  · exact absurd pass refused

theorem State.readAndMark_entry_other {j : Nat} (hj : j ≠ i) :
    (s.readAndMark p i page direction).store.entry j = s.store.entry j := by
  rcases State.readAndMark_cases p page direction (s := s) (i := i) rfl with
    ⟨_, eq⟩ | ⟨_, _, eq⟩ | ⟨_, _, _, eq⟩ | ⟨_, _, eq⟩ <;> rw [eq]
  · rfl
  · rfl
  · exact s.store.entry_put_other i j _ hj.symm

/-- A GOOD check leaves STORE ERROR INDEX and chip control as they stand. -/
theorem State.readAndMark_good (he : s.store.entry i = e) (good : e.check = .good) :
    (s.readAndMark p i page direction).store.errorIndex = s.store.errorIndex ∧
      (s.readAndMark p i page direction).chip = s.chip := by
  rcases State.readAndMark_cases p page direction he with
    ⟨bad, _⟩ | ⟨_, _, eq⟩ | ⟨_, _, _, eq⟩ | ⟨_, _, eq⟩
  · simp [good] at bad
  · simp [eq]
  · simp [eq]
  · simp [eq]

/-- The requesting port's list, for a VALID entry with a GOOD check: the copy in front, with the fields
after the access (R87). -/
theorem State.readAndMark_own_list (hi : i < 2048) (he : s.store.entry i = e)
    (good : e.check = .good) (valid : e.fields.valid = true) :
    (s.readAndMark p i page direction).ports[p].lookaside =
      placeCopy s.ports[p].lookaside
        ⟨page, i, ((s.readAndMark p i page direction).store.entry i).fields⟩ := by
  rcases State.readAndMark_cases p page direction he with
    ⟨bad, _⟩ | ⟨_, invalid, _⟩ | ⟨_, _, _, eq⟩ | ⟨pass, _, eq⟩
  · simp [good] at bad
  · simp [valid] at invalid
  · rw [eq, State.placePortCopy_port, State.placePortCopy_store, he, if_pos rfl]
  · rw [State.readAndMark_entry_passes hi he pass, eq, State.placePortCopy_port,
      State.writeMarked_port, if_pos rfl, if_pos rfl]

/-- Without a VALID entry with a GOOD check, no list changes (R87). -/
theorem State.readAndMark_no_copy (he : s.store.entry i = e)
    (h : e.check = .bad ∨ e.fields.valid = false) :
    (s.readAndMark p i page direction).ports = s.ports := by
  rcases State.readAndMark_cases p page direction he with
    ⟨_, eq⟩ | ⟨_, _, eq⟩ | ⟨good, valid, _⟩ | ⟨⟨good, valid, _⟩, _⟩
  · rw [eq]; rfl
  · rw [eq]
  · simp [good, valid] at h
  · simp [good, valid] at h

/-- The other ports lose their copies of an entry that changes, and keep their lists otherwise
(R6). -/
theorem State.readAndMark_other_port (hi : i < 2048) (he : s.store.entry i = e) {q : PortId}
    (hq : q ≠ p) :
    (s.readAndMark p i page direction).ports[q] =
      if (s.readAndMark p i page direction).store.entry i = e then s.ports[q]
      else s.ports[q].dropCopies i := by
  rcases State.readAndMark_cases p page direction he with
    ⟨_, eq⟩ | ⟨_, _, eq⟩ | ⟨_, _, _, eq⟩ | ⟨pass, changes, eq⟩
  · rw [eq]; exact (if_pos he).symm
  · rw [eq]; exact (if_pos he).symm
  · rw [eq, State.placePortCopy_port, if_neg hq.symm]; exact (if_pos he).symm
  · have changed : (s.readAndMark p i page direction).store.entry i ≠ e := by
      rw [State.readAndMark_entry_passes hi he pass]
      exact fun same => changes (congrArg MapEntry.fields same)
    rw [if_neg changed, eq, State.placePortCopy_port, if_neg hq.symm, State.writeMarked_port,
      if_neg hq.symm]

/-- Of every port a read-and-mark changes the list alone. -/
theorem State.readAndMark_port_frame (q : PortId) :
    (s.readAndMark p i page direction).ports[q] =
      { s.ports[q] with lookaside := (s.readAndMark p i page direction).ports[q].lookaside } := by
  rcases State.readAndMark_cases p page direction (s := s) (i := i) rfl with
    ⟨_, eq⟩ | ⟨_, _, eq⟩ | ⟨_, _, _, eq⟩ | ⟨_, _, eq⟩ <;> rw [eq]
  · rfl
  · rw [State.placePortCopy_port]
    split <;> rfl
  · rw [State.placePortCopy_port, State.writeMarked_port]
    split <;> rfl

/-- A read-and-mark changes the store, the lists of copies and STORE_ERROR alone. -/
theorem State.readAndMark_frame :
    s.readAndMark p i page direction =
      { s with
        store := (s.readAndMark p i page direction).store
        ports := (s.readAndMark p i page direction).ports
        chip := { s.chip with
          flags := { s.chip.flags with
            storeError := (s.readAndMark p i page direction).chip.flags.storeError } } } := by
  rcases State.readAndMark_cases p page direction (s := s) (i := i) rfl with
    ⟨_, eq⟩ | ⟨_, _, eq⟩ | ⟨_, _, _, eq⟩ | ⟨_, _, eq⟩ <;> rw [eq] <;> rfl

end Clauses

end Sys2Proof.Machine

namespace Sys2Proof.Proofs

open Sys2Proof.Machine

/-- Settles O21: a write is one replacement in the store and the removal of the entry's copies from
every port. -/
theorem storeWrite : Obligations.StoreWrite := by
  intro s i fields check hi
  exact ⟨s.storeWrite_entry_same i fields check hi,
    fun j hj => s.storeWrite_entry_other i j fields check hj,
    s.storeWrite_errorIndex i fields check, fun q => s.storeWrite_port i fields check q,
    s.storeWrite_frame i fields check⟩

/-- Settles O22: a read-and-clear that clears a mark is a write, so StoreWrite says what it changes. -/
theorem readAccesses : Obligations.ReadAccesses := by
  refine ⟨fun s i => ⟨s.plainRead_good i, s.plainRead_bad i⟩, fun s i hi =>
    ⟨s.readAndClear_bad i, s.readAndClear_unmarked i, fun good mark => ?_⟩⟩
  dsimp only
  rw [s.readAndClear_marked i good mark]
  exact storeWrite s i _ .good hi

/-- Settles O23, clause by clause from the outcomes of a read-and-mark. -/
theorem readAndMark : Obligations.ReadAndMark := by
  intro s p i page direction hi
  refine ⟨State.readAndMark_entry_passes hi rfl, State.readAndMark_entry_refused rfl,
    fun j => State.readAndMark_entry_other, fun bad => ?_, State.readAndMark_good rfl,
    State.readAndMark_own_list hi rfl, State.readAndMark_no_copy rfl, fun q hq => ⟨?_, ?_⟩,
    State.readAndMark_port_frame, State.readAndMark_frame⟩
  · rw [State.readAndMark_bad rfl bad]
    exact ⟨rfl, rfl⟩
  · intro changed
    rw [State.readAndMark_other_port hi rfl hq, if_neg changed]
    rfl
  · intro same
    rw [State.readAndMark_other_port hi rfl hq, if_pos same]

end Sys2Proof.Proofs
end

section
/-! PROOFS. WRITE ENTRY, TEST ENTRY and PROBE (section 1.5): the checks in order, and the performance
that follows them. -/

namespace Sys2Proof.Machine

open Sys2Proof

variable (s : State)

/-- The performance of the command that is taken leaves its state with STATUS `performed` (R165). -/
theorem State.performCommand_taken (code : BitVec 8) (perform : ParamWords → State → Performed)
    (h : s.command.status = .taken code) :
    s.performCommand code perform =
      (perform s.command.latched s).state.setStatus
        (.performed code (perform s.command.latched s).outcome
          (perform s.command.latched s).results) := by
  simp [State.performCommand, h]

/-- The three checks of R14 in order, on the context record that the first parameter names. -/
theorem entryIndex_eq (p : ParamWords) :
    entryIndex p s =
      if h : p[0].toNat < 16 then
        if s.contexts[p[0].toNat].defined = false then .error .notDefined
        else if s.contexts[p[0].toNat].pages ≤ p[1].toNat then .error .range
        else .ok (s.contexts[p[0].toNat].base + p[1].toNat)
      else .error .badParameter := by
  unfold entryIndex contextParam
  by_cases h : p[0].toNat < 16
  · simp only [dif_pos h]; rfl
  · simp only [dif_neg h]

/-- The FRAME check of R15. -/
theorem frameParam_eq (w : Word) :
    frameParam w = if 1048575 < w.toNat then none else some (BitVec.ofNat 20 w.toNat) := by
  unfold frameParam
  by_cases h : w.toNat < 1048576
  · rw [if_pos h, if_neg (by omega)]; rfl
  · rw [if_neg h, if_pos (by omega)]

/-- WRITE ENTRY and TEST ENTRY after the checks of R14 and R15. -/
theorem performEntryWrite_eq (check : Check) (p : ParamWords) :
    performEntryWrite check p s =
      if h : p[0].toNat < 16 then
        if s.contexts[p[0].toNat].defined = false then performedFail s .notDefined
        else if s.contexts[p[0].toNat].pages ≤ p[1].toNat then performedFail s .range
        else if 1048575 < p[2].toNat then performedFail s .badParameter
        else performedOk (s.storeWrite (s.contexts[p[0].toNat].base + p[1].toNat)
          (entryFields (BitVec.ofNat 20 p[2].toNat) p[3]) check)
      else performedFail s .badParameter := by
  unfold performEntryWrite
  rw [entryIndex_eq, frameParam_eq]
  by_cases context : p[0].toNat < 16
  · by_cases free : s.contexts[p[0].toNat].defined = false
    · simp only [dif_pos context, if_pos free]
    · by_cases outside : s.contexts[p[0].toNat].pages ≤ p[1].toNat
      · simp only [dif_pos context, if_neg free, if_pos outside]
      · by_cases wide : 1048575 < p[2].toNat
        · simp only [dif_pos context, if_neg free, if_neg outside, if_pos wide]
        · simp only [dif_pos context, if_neg free, if_neg outside, if_neg wide]
  · simp only [dif_neg context]

/-- PROBE after the checks of R14. -/
theorem performProbe_eq (p : ParamWords) :
    performProbe p s =
      if h : p[0].toNat < 16 then
        if s.contexts[p[0].toNat].defined = false then performedFail s .notDefined
        else if s.contexts[p[0].toNat].pages ≤ p[1].toNat then performedFail s .range
        else
          ⟨s.plainRead (s.contexts[p[0].toNat].base + p[1].toNat), .ok,
            probeWords (s.contexts[p[0].toNat].base + p[1].toNat)
              (s.store.entry (s.contexts[p[0].toNat].base + p[1].toNat))
              (s.copyHolders (s.contexts[p[0].toNat].base + p[1].toNat))⟩
      else performedFail s .badParameter := by
  unfold performProbe
  rw [entryIndex_eq]
  by_cases context : p[0].toNat < 16
  · by_cases free : s.contexts[p[0].toNat].defined = false
    · simp only [dif_pos context, if_pos free]
    · by_cases outside : s.contexts[p[0].toNat].pages ≤ p[1].toNat
      · simp only [dif_pos context, if_neg free, if_pos outside]
      · simp only [dif_pos context, if_neg free, if_neg outside]
  · simp only [dif_neg context]

end Sys2Proof.Machine

namespace Sys2Proof.Proofs

open Sys2Proof.Machine

/-- Settles O20: each performance is its checks in order, then one access. -/
theorem entryCommands : Obligations.EntryCommands := by
  refine ⟨fun e mem s taken => ?_, fun s taken => ?_⟩
  · have run : exec (e.2.1 .perform) s = .next (s.performCommand e.1 (performEntryWrite e.2.2)) := by
      simp only [List.mem_cons, List.not_mem_nil, or_false] at mem
      rcases mem with rfl | rfl <;> rfl
    dsimp only
    rw [run, s.performCommand_taken _ _ taken, performEntryWrite_eq]
    repeat' split
    all_goals rfl
  · have run : exec (.probe .perform) s = .next (s.performCommand 0x22#8 performProbe) := rfl
    dsimp only
    rw [run, s.performCommand_taken _ _ taken, performProbe_eq]
    repeat' split
    all_goals rfl

end Sys2Proof.Proofs
end

section
/-! PROOFS. The parameter words of R174 as numbers, and the commands of chapter 2 with READ PORT and READ
WINDOW: the checks of each in order, and what the performance that passes them leaves. -/

namespace Sys2Proof.Machine

open Sys2Proof Sys2Proof.Statements

variable (s : State)

/-! ## Parameter words (R174) -/

theorem contextParam_of_eq {w : Word} {c : ContextId} (h : w.toNat = c.val) :
    contextParam w = some c := by
  simp [contextParam, h]

theorem contextParam_of_above {w : Word} (h : 15 < w.toNat) : contextParam w = none :=
  dif_neg (by omega)

theorem yesNoParam_of_above {w : Word} (h : 1 < w.toNat) : yesNoParam w = none := by
  have not_zero : w ≠ 0#32 := by rintro rfl; simp at h
  have not_one : w ≠ 1#32 := by rintro rfl; simp at h
  simp only [yesNoParam, if_neg not_zero, if_neg not_one]

theorem yesNoParam_of_le {w : Word} (h : w.toNat ≤ 1) :
    yesNoParam w = some (decide (w.toNat = 1)) := by
  rcases Nat.le_one_iff_eq_zero_or_eq_one.mp h with zero | one
  · obtain rfl : w = 0#32 := BitVec.eq_of_toNat_eq zero
    rfl
  · obtain rfl : w = 1#32 := BitVec.eq_of_toNat_eq one
    rfl

/-! ## Performances -/

/-- The performance of the command that is taken, by its outcome and result words (R165). -/
theorem State.performCommand_ends {code : BitVec 8} {perform : ParamWords → State → Performed}
    {u : State} {outcome : CommandOutcome} {results : ResultWords}
    (taken : s.command.status = .taken code)
    (done : perform s.command.latched s = ⟨u, outcome, results⟩) :
    s.performCommand code perform = ends u code outcome results := by
  rw [s.performCommand_taken code perform taken, done]
  rfl

/-! ## Regions that share an entry (R21, R22) -/

/-- Two runs of at least one entry share one exactly when each begins before the other ends: the later
of the two beginnings is such an entry. -/
theorem Context.overlaps_iff_shares {c : Context} {base pages : Nat} (lawful : c.lawful)
    (positive : 0 < pages) : c.overlaps base pages = true ↔ shares c base pages := by
  simp only [Context.overlaps, Bool.and_eq_true, decide_eq_true_eq, shares, and_assoc]
  refine and_congr_right fun defined => ⟨fun ⟨before, after⟩ => ?_, fun ⟨i, h⟩ => by omega⟩
  have own : 1 ≤ c.pages := by
    rw [Context.lawful, if_pos defined] at lawful
    exact lawful.1
  exact ⟨max base c.base, by omega⟩

theorem allContexts_eq_finRange : allContexts = List.finRange 16 := by decide

/-- The context found is the lowest-numbered one that overlaps. -/
theorem State.overlapping_eq_some_iff (base pages : Nat) (d : ContextId) :
    s.overlapping base pages = some d ↔
      s.contexts[d].overlaps base pages = true ∧
        ∀ e : ContextId, e < d → s.contexts[e].overlaps base pages = false := by
  rw [State.overlapping, allContexts_eq_finRange, List.find?_eq_some_iff_getElem]
  simp only [List.getElem_finRange, List.length_finRange, Bool.not_eq_true']
  refine and_congr_right fun _ => ⟨?_, fun below => ⟨d.val, d.isLt, rfl, fun j hj => ?_⟩⟩
  · rintro ⟨i, hi, rfl, below⟩ e he
    exact below e.val he
  · exact below ⟨j, by omega⟩ hj

theorem State.overlapping_eq_none_iff (base pages : Nat) :
    s.overlapping base pages = none ↔
      ∀ d : ContextId, s.contexts[d].overlaps base pages = false := by
  simp [State.overlapping, allContexts_eq_finRange]

/-! ## DEFINE CONTEXT (R22) -/

section Define

variable {s} {p : ParamWords} {c : ContextId}

theorem performDefineContext_of_context_above (h : 15 < p[0].toNat) :
    performDefineContext p s = performedFail s .badParameter := by
  simp only [performDefineContext, contextParam_of_above h]

theorem performDefineContext_of_readOnly_above (context : p[0].toNat = c.val)
    (h : 1 < p[3].toNat) : performDefineContext p s = performedFail s .badParameter := by
  simp only [performDefineContext, contextParam_of_eq context, yesNoParam_of_above h]

theorem performDefineContext_of_defined (context : p[0].toNat = c.val) (readOnly : p[3].toNat ≤ 1)
    (defined : s.contexts[c].defined = true) :
    performDefineContext p s = performedFail s .defined := by
  simp only [performDefineContext, contextParam_of_eq context, yesNoParam_of_le readOnly,
    if_pos defined]

theorem performDefineContext_of_outside (context : p[0].toNat = c.val) (readOnly : p[3].toNat ≤ 1)
    (free : s.contexts[c].defined = false)
    (outside : p[2].toNat = 0 ∨ 2048 < p[1].toNat + p[2].toNat) :
    performDefineContext p s = performedFail s .range := by
  simp only [performDefineContext, contextParam_of_eq context, yesNoParam_of_le readOnly, free,
    Bool.false_eq_true, if_false, if_pos outside]

theorem performDefineContext_of_overlap {d : ContextId} (context : p[0].toNat = c.val)
    (readOnly : p[3].toNat ≤ 1) (free : s.contexts[c].defined = false)
    (inside : ¬ (p[2].toNat = 0 ∨ 2048 < p[1].toNat + p[2].toNat))
    (search : s.overlapping p[1].toNat p[2].toNat = some d) :
    performDefineContext p s =
      ⟨s, .overlap, #v[BitVec.ofNat 32 d.val, 0#32, 0#32, 0#32]⟩ := by
  simp only [performDefineContext, contextParam_of_eq context, yesNoParam_of_le readOnly, free,
    Bool.false_eq_true, if_false, if_neg inside, search, Machine.place, BitVec.shiftLeft_zero]

theorem performDefineContext_of_disjoint (context : p[0].toNat = c.val) (readOnly : p[3].toNat ≤ 1)
    (free : s.contexts[c].defined = false)
    (inside : ¬ (p[2].toNat = 0 ∨ 2048 < p[1].toNat + p[2].toNat))
    (search : s.overlapping p[1].toNat p[2].toNat = none) :
    performDefineContext p s =
      performedOk (putContext s c
        ⟨true, p[1].toNat, p[2].toNat, decide (p[3].toNat = 1), 0, .none⟩) := by
  simp only [performDefineContext, contextParam_of_eq context, yesNoParam_of_le readOnly, free,
    Bool.false_eq_true, if_false, if_neg inside, search]
  rfl

/-- What DEFINE CONTEXT does to the state: nothing, or the record of a FREE context DEFINED, with a
region inside the store that overlaps no other. -/
theorem performDefineContext_cases (p : ParamWords) (s : State) :
    (performDefineContext p s).state = s ∨
      ∃ c base pages readOnly, s.contexts[c].defined = false ∧ 1 ≤ pages ∧ base + pages ≤ 2048 ∧
        (∀ d : ContextId, s.contexts[d].overlaps base pages = false) ∧
        (performDefineContext p s).state =
          s.updateContext c fun _ => ⟨true, base, pages, readOnly, 0, .none⟩ := by
  unfold performDefineContext
  split
  · next c readOnly _ _ =>
    split
    · exact Or.inl rfl
    · next free =>
      split
      · exact Or.inl rfl
      · next inside =>
        split
        · exact Or.inl rfl
        · next search =>
          exact Or.inr ⟨c, _, _, readOnly, Bool.not_eq_true _ ▸ free, by omega, by omega,
            (s.overlapping_eq_none_iff _ _).mp search, rfl⟩
  · exact Or.inl rfl

end Define

/-! ## DELETE CONTEXT and the reads (R24, R25, R50, R152) -/

/-- DELETE CONTEXT is its three checks in order, then the FREE record. -/
theorem performDeleteContext_eq (p : ParamWords) :
    performDeleteContext p s =
      if h : p[0].toNat < 16 then
        if s.contexts[p[0].toNat].defined = false then performedFail s .notDefined
        else if 0 < s.contexts[p[0].toNat].bindCount ∨ s.contexts[p[0].toNat].mark ≠ .none then
          performedFail s .inUse
        else performedOk (putContext s ⟨p[0].toNat, h⟩ Context.free)
      else performedFail s .badParameter := by
  by_cases context : p[0].toNat < 16
  · simp only [performDeleteContext, contextParam_of_eq (c := ⟨_, context⟩) rfl, dif_pos context]
    rfl
  · simp only [performDeleteContext, contextParam_of_above (Nat.not_lt.mp context),
      dif_neg context]

/-- What DELETE CONTEXT does to the state: nothing, or the record of a DEFINED context out of use
FREE. -/
theorem performDeleteContext_cases (p : ParamWords) :
    (performDeleteContext p s).state = s ∨
      ∃ c, s.contexts[c].defined = true ∧ s.contexts[c].bindCount = 0 ∧ s.contexts[c].mark = .none ∧
        (performDeleteContext p s).state = s.updateContext c fun _ => Context.free := by
  unfold performDeleteContext
  split
  · next c _ =>
    split
    · exact Or.inl rfl
    · next defined =>
      split
      · exact Or.inl rfl
      · next unused =>
        simp only [not_or, Nat.not_lt, Nat.le_zero, not_not] at unused
        obtain ⟨unbound, unmarked⟩ := unused
        exact Or.inr ⟨c, Bool.not_eq_false _ ▸ defined, unbound, unmarked, rfl⟩
  · exact Or.inl rfl

theorem performReadContext_eq (p : ParamWords) :
    performReadContext p s =
      if _h : p[0].toNat < 16 then ⟨s, .ok, contextWords s.contexts[p[0].toNat]⟩
      else performedFail s .badParameter := by
  unfold performReadContext contextParam
  by_cases context : p[0].toNat < 16
  · simp only [dif_pos context]; rfl
  · simp only [dif_neg context]

theorem performReadPort_eq (p : ParamWords) :
    performReadPort p s =
      if _h : p[0].toNat < 6 then ⟨s, .ok, portWords s.ports[p[0].toNat]⟩
      else performedFail s .badParameter := by
  unfold performReadPort withPort portParam
  by_cases port : p[0].toNat < 6
  · simp only [dif_pos port]; rfl
  · simp only [dif_neg port]

theorem performReadWindow_eq (p : ParamWords) :
    performReadWindow p s =
      if _h : p[0].toNat < 4 then ⟨s, .ok, windowWords s.windows[p[0].toNat]⟩
      else performedFail s .badParameter := by
  unfold performReadWindow windowParam
  by_cases window : p[0].toNat < 4
  · simp only [dif_pos window]; rfl
  · simp only [dif_neg window]

end Sys2Proof.Machine

namespace Sys2Proof.Proofs

open Sys2Proof.Machine

/-- Settles O17: with every record lawful, the search of R22 finds the contexts that share an entry. -/
theorem defineContext : Obligations.DefineContext := by
  intro s taken
  refine ⟨s.performCommand 0x10#8 performDefineContext, rfl,
    fun above => s.performCommand_ends taken (performDefineContext_of_context_above above),
    fun c context => ⟨fun above => s.performCommand_ends taken
      (performDefineContext_of_readOnly_above context above),
    fun readOnly defined => s.performCommand_ends taken
      (performDefineContext_of_defined context readOnly defined),
    fun readOnly free => ⟨fun outside => s.performCommand_ends taken
      (performDefineContext_of_outside context readOnly free outside),
    fun positive below lawful => ?_⟩⟩⟩
  have inside : ¬ (s.command.latched[2].toNat = 0 ∨
      2048 < s.command.latched[1].toNat + s.command.latched[2].toNat) := by omega
  have shares_iff (d : ContextId) := Context.overlaps_iff_shares
    (base := s.command.latched[1].toNat) (lawful d) positive
  refine ⟨fun d found lowest => s.performCommand_ends taken
      (performDefineContext_of_overlap context readOnly free inside ?_),
    fun unshared => s.performCommand_ends taken
      (performDefineContext_of_disjoint context readOnly free inside ?_)⟩
  · exact (s.overlapping_eq_some_iff _ _ d).mpr ⟨(shares_iff d).mpr found, fun e below =>
      Bool.eq_false_iff.mpr fun overlap => lowest e below ((shares_iff e).mp overlap)⟩
  · exact (s.overlapping_eq_none_iff _ _).mpr fun d =>
      Bool.eq_false_iff.mpr fun overlap => unshared d ((shares_iff d).mp overlap)

/-- Settles O18: the performance is its checks in order, then one record replaced. -/
theorem deleteContext : Obligations.DeleteContext := by
  intro s taken
  have run : exec (.deleteContext .perform) s =
      .next (s.performCommand 0x11#8 performDeleteContext) := rfl
  dsimp only
  rw [run, s.performCommand_taken _ _ taken, performDeleteContext_eq]
  repeat' split
  all_goals rfl

/-- Settles O19: each performance is the check of the number, then the record as it stands. -/
theorem readCommands : Obligations.ReadCommands := by
  intro s
  refine ⟨fun taken => ?_, fun taken => ?_, fun taken => ?_⟩
  · have run : exec (.readContext .perform) s =
        .next (s.performCommand 0x12#8 performReadContext) := rfl
    rw [run, s.performCommand_taken _ _ taken, performReadContext_eq]
    split <;> rfl
  · have run : exec (.readPort .perform) s = .next (s.performCommand 0x34#8 performReadPort) := rfl
    rw [run, s.performCommand_taken _ _ taken, performReadPort_eq]
    split <;> rfl
  · have run : exec (.readWindow .perform) s =
        .next (s.performCommand 0x61#8 performReadWindow) := rfl
    rw [run, s.performCommand_taken _ _ taken, performReadWindow_eq]
    split <;> rfl

end Sys2Proof.Proofs
end

section
/-! PROOFS. The context table as its laws see it: the records, the bindings of the ports and the transfer
in progress; and the operations and events that leave these three as they are. -/

namespace Sys2Proof.Machine

open Sys2Proof

variable (s : State)

/-- What the laws of the context table speak of: the records, the bindings of P0 to P5, the transfer in
progress. -/
structure ContextTable where
  contexts : Vector Context 16
  bindings : Vector (Option ContextId) 6
  transfer : Option Transfer

/-- The context table of a state. -/
def State.table (s : State) : ContextTable :=
  ⟨s.contexts, s.ports.map Port.binding, s.engine.state.transfer⟩

theorem State.table_eq_iff {s t : State} :
    t.table = s.table ↔
      t.contexts = s.contexts ∧ (∀ p : PortId, t.ports[p].binding = s.ports[p].binding) ∧
        t.engine.state.transfer = s.engine.state.transfer := by
  simp only [State.table, ContextTable.mk.injEq]
  refine and_congr_right fun _ => and_congr_left fun _ => ⟨fun same p => ?_, fun same => ?_⟩
  · simpa using congrArg (·[p]) same
  · exact Vector.ext fun i hi => by simpa using same ⟨i, hi⟩

/-! ## Updates of the state -/

theorem State.updatePort_table (p : PortId) (f : Port → Port)
    (keeps : (f s.ports[p]).binding = s.ports[p].binding) :
    (s.updatePort p f).table = s.table := by
  refine State.table_eq_iff.mpr ⟨rfl, fun q => ?_, rfl⟩
  rw [State.updatePort_get]
  split
  · next same => subst same; exact keeps
  · rfl

theorem State.setEngineState_table (e : EngineState)
    (keeps : e.transfer = s.engine.state.transfer) : (s.setEngineState e).table = s.table :=
  State.table_eq_iff.mpr ⟨rfl, fun _ => rfl, keeps⟩

@[simp] theorem State.setBurst_table (p : PortId) (burst : Burst) :
    (s.setBurst p burst).table = s.table :=
  s.updatePort_table p _ rfl

@[simp] theorem State.setGate_table (p : PortId) (gate : Gate) :
    (s.setGate p gate).table = s.table :=
  s.updatePort_table p _ rfl

@[simp] theorem State.setWaiting_table (p : PortId) (waiting : Option Request) :
    (s.setWaiting p waiting).table = s.table :=
  s.updatePort_table p _ rfl

@[simp] theorem State.receiveWords_table (p : PortId) (pos : Nat) (words : List Word) :
    (s.receiveWords p pos words).table = s.table :=
  s.updatePort_table p _ rfl

@[simp] theorem State.placePortCopy_table (p : PortId) (c : Copy) :
    (s.placePortCopy p c).table = s.table :=
  s.updatePort_table p _ rfl

@[simp] theorem State.removeCopies_table (i : Nat) (except : Option PortId) :
    (s.removeCopies i except).table = s.table := by
  refine State.table_eq_iff.mpr ⟨rfl, fun q => ?_, rfl⟩
  rw [State.removeCopies_get]
  split <;> rfl

/-! ## Takes, answers and faults -/

@[simp] theorem State.tryTake_table (p : PortId) : (s.tryTake p).table = s.table := by
  rcases s.tryTake_cases p with ⟨eq, _⟩ | ⟨r, _, _, eq⟩ <;> rw [eq]
  exact s.updatePort_table p _ rfl

theorem foldTake_table (ports : List PortId) :
    (ports.foldl (fun t p => t.tryTake p) s).table = s.table := by
  induction ports generalizing s with
  | nil => rfl
  | cons p rest ih => exact (ih _).trans (s.tryTake_table p)

@[simp] theorem State.answer_table (p : PortId) (a : LinkAnswer) :
    (s.answer p a).table = s.table :=
  (State.tryTake_table _ p).trans (s.updatePort_table p _ rfl)

@[simp] theorem State.endDrain_table : s.endDrain.table = s.table := by
  rcases s.endDrain_cases with ⟨eq, _⟩ | ⟨t, draining, _, eq⟩ <;> rw [eq]
  exact s.setEngineState_table _ (by rw [draining]; rfl)

@[simp] theorem State.reachQuiet_table : s.reachQuiet.table = s.table := by
  rcases s.reachQuiet_cases with ⟨eq, _⟩ | ⟨_, _, eq⟩ <;> rw [eq]
  rfl

@[simp] theorem State.settle_table : s.settle.table = s.table :=
  (State.reachQuiet_table _).trans s.endDrain_table

@[simp] theorem State.appendAndAnswer_table (p : PortId) (record : FaultRecord) :
    (s.appendAndAnswer p record).table = s.table :=
  State.answer_table _ p _

@[simp] theorem State.stall_table (p : PortId) (r : CurrentRequest) (record : FaultRecord) :
    (s.stall p r record).table = s.table :=
  State.setBurst_table _ p _

@[simp] theorem State.decideFault_table (p : PortId) (r : CurrentRequest) (record : FaultRecord) :
    (s.decideFault p r record).table = s.table := by
  rcases s.decideFault_cases p r record with ⟨_, eq⟩ | ⟨_, eq⟩ <;> simp [eq]

@[simp] theorem State.handOff_table : s.handOff.table = s.table := by
  rcases s.handOff_cases with ⟨eq, _⟩ | ⟨p, record, rest, _, eq⟩ <;> rw [eq]
  exact (State.settle_table _).trans (State.appendAndAnswer_table _ p record)

/-! ## The arbiter -/

@[simp] theorem State.grantTo_table (r : Requester) : (s.grantTo r).table = s.table := by
  unfold State.grantTo
  repeat' split
  all_goals first
    | rfl
    | exact State.setBurst_table _ _ _
    | exact State.setEngineState_table _ _ (by simp [*, EngineState.transfer])

@[simp] theorem State.grant_table : s.grant.table = s.table := by
  rcases s.grant_cases with ⟨eq, _⟩ | ⟨r, _, _, _, eq⟩ <;> simp [eq]

theorem State.requestChunk_table (t : Transfer) (w : Work)
    (progress : s.engine.state.transfer = some t) : (s.requestChunk t w).table = s.table :=
  (State.grant_table _).trans (s.setEngineState_table _ progress.symm)

/-! ## Store accesses -/

@[simp] theorem State.plainRead_table (i : Nat) : (s.plainRead i).table = s.table := by
  unfold State.plainRead
  split <;> rfl

@[simp] theorem State.storeWrite_table (i : Nat) (fields : Fields) (check : Check) :
    (s.storeWrite i fields check).table = s.table :=
  State.removeCopies_table _ i none

@[simp] theorem State.readAndClear_table (i : Nat) : (s.readAndClear i).table = s.table := by
  unfold State.readAndClear
  repeat' split
  · rfl
  · exact s.storeWrite_table i _ _
  · rfl

@[simp] theorem State.dumpAccess_table (clear : Bool) (i : Nat) :
    (s.dumpAccess clear i).table = s.table := by
  unfold State.dumpAccess
  split <;> simp

@[simp] theorem State.readAndMark_table (p : PortId) (i page : Nat) (direction : Direction) :
    (s.readAndMark p i page direction).table = s.table := by
  rcases State.readAndMark_cases p page direction (s := s) (i := i) rfl with
    ⟨_, eq⟩ | ⟨_, _, eq⟩ | ⟨_, _, _, eq⟩ | ⟨_, _, eq⟩ <;> rw [eq]
  · rfl
  · exact s.placePortCopy_table p _
  · exact (State.placePortCopy_table _ p _).trans (State.removeCopies_table _ i (some p))

@[simp] theorem State.writeRunEntry_table (t : Transfer) (fields : Fields) :
    (s.writeRunEntry t fields).table = s.table :=
  s.storeWrite_table _ fields .good

/-! ## Translation and the watch compare -/

@[simp] theorem State.lookup_table (p : PortId) (i page : Nat) (direction : Direction) :
    (s.lookup p i page direction).table = s.table := by
  unfold State.lookup
  split
  · exact s.updatePort_table p _ rfl
  · exact s.readAndMark_table p i page direction

@[simp] theorem State.noteMatches_table (p : PortId) (direction : Direction) (segs : Segments) :
    (s.noteMatches p direction segs).table = s.table := by
  unfold State.noteMatches
  split <;> rfl

@[simp] theorem State.recordHits_table (p : PortId) (r : CurrentRequest) (segs : Segments) :
    (s.recordHits p r segs).table = s.table := rfl

@[simp] theorem State.watchCompare_table (p : PortId) (r : CurrentRequest) (segs : Segments) :
    (s.watchCompare p r segs).table = s.table := by
  unfold State.watchCompare
  split <;> simp

@[simp] theorem State.splitPages_table (p : PortId) (c : ContextId) (r : CurrentRequest) :
    (s.splitPages p c r).table = s.table := by
  unfold State.splitPages
  split <;> simp

@[simp] theorem State.openBurst_table (p : PortId) (r : CurrentRequest) :
    (s.openBurst p r).table = s.table := by
  unfold State.openBurst State.fenceCheck
  repeat' split
  all_goals simp

@[simp] theorem State.passPage_table (p : PortId) (c : ContextId) (r : CurrentRequest) (walk : Walk)
    (result : PageResult) : (s.passPage p c r walk result).table = s.table := by
  unfold State.passPage
  repeat' split
  all_goals simp

@[simp] theorem State.lookupPage_table (p : PortId) (c : ContextId) (r : CurrentRequest)
    (walk : Walk) : (s.lookupPage p c r walk).table = s.table := by
  unfold State.lookupPage
  dsimp only
  split <;> simp

/-! ## Answers to a port's transactions -/

@[simp] theorem State.freeMemory_table : s.freeMemory.table = s.table := rfl

@[simp] theorem State.finishBurst_table (p : PortId) (r : CurrentRequest) :
    (s.finishBurst p r).table = s.table := by
  simp [State.finishBurst]

@[simp] theorem State.memoryFault_table (p : PortId) (r : CurrentRequest) (seg : Segment) :
    (s.memoryFault p r seg).table = s.table := by
  simp [State.memoryFault]

@[simp] theorem State.issueSecond_table (p : PortId) (r : CurrentRequest) (segs : Segments)
    (second : Segment) : (s.issueSecond p r segs second).table = s.table := rfl

@[simp] theorem State.answerSegment_table (p : PortId) (r : CurrentRequest) (segs : Segments)
    (which : PageIndex) (answer : MemoryAnswer) :
    (s.answerSegment p r segs which answer).table = s.table := by
  unfold State.answerSegment
  dsimp only
  repeat' split
  all_goals simp

/-! ## The command unit -/

@[simp] theorem State.takeCommand_table (busy : CommandStatus) :
    (s.takeCommand busy).table = s.table := by
  rcases s.takeCommand_cases busy with eq | eq | ⟨_, _, eq⟩ <;> rw [eq] <;> rfl

/-! ## Performances -/

/-- A command with a port number keeps what its act on the port keeps. -/
theorem withPort_keeps {P : State → Prop} {w : Word} {act : PortId → Performed} (h : P s)
    (keeps : ∀ p, P (act p).state) : P (withPort w s act).state := by
  unfold withPort
  split
  · exact keeps _
  · exact h

theorem performReadContext_table (params : ParamWords) :
    (performReadContext params s).state.table = s.table := by
  rw [performReadContext_eq]
  split <;> rfl

theorem performEntryWrite_table (check : Check) (params : ParamWords) :
    (performEntryWrite check params s).state.table = s.table := by
  rw [performEntryWrite_eq]
  repeat' split
  all_goals simp [performedOk, performedFail]

theorem performProbe_table (params : ParamWords) :
    (performProbe params s).state.table = s.table := by
  rw [performProbe_eq]
  repeat' split
  all_goals simp [performedFail]

theorem performSuspendPort_table (params : ParamWords) :
    (performSuspendPort params s).state.table = s.table :=
  withPort_keeps (P := fun t => t.table = s.table) s rfl fun p => s.setGate_table p _

theorem performAdmitPort_table (params : ParamWords) :
    (performAdmitPort params s).state.table = s.table :=
  withPort_keeps (P := fun t => t.table = s.table) s rfl fun p =>
    (State.tryTake_table _ p).trans (s.setGate_table p _)

theorem performReadPort_table (params : ParamWords) :
    (performReadPort params s).state.table = s.table :=
  withPort_keeps (P := fun t => t.table = s.table) s rfl fun _ => rfl

theorem performFlushPort_table (params : ParamWords) :
    (performFlushPort params s).state.table = s.table :=
  withPort_keeps (P := fun t => t.table = s.table) s rfl fun p => s.updatePort_table p _ rfl

theorem performResumeHeld_table (params : ParamWords) :
    (performResumeHeld params s).state.table = s.table := by
  refine withPort_keeps (P := fun t => t.table = s.table) s rfl fun p => ?_
  split
  · exact (State.grant_table _).trans (s.setBurst_table p _)
  all_goals rfl

theorem performCancelHeld_table (params : ParamWords) :
    (performCancelHeld params s).state.table = s.table := by
  refine withPort_keeps (P := fun t => t.table = s.table) s rfl fun p => ?_
  split
  · exact s.decideFault_table p _ _
  all_goals rfl

theorem performPopFault_table (params : ParamWords) :
    (performPopFault params s).state.table = s.table := by
  unfold performPopFault
  split
  · rfl
  · exact State.handOff_table _

theorem performSetWindow_table (params : ParamWords) :
    (performSetWindow params s).state.table = s.table := by
  unfold performSetWindow
  repeat' split
  all_goals rfl

theorem performReadWindow_table (params : ParamWords) :
    (performReadWindow params s).state.table = s.table := by
  rw [performReadWindow_eq]
  split <;> rfl

theorem performQuiesce_table (params : ParamWords) :
    (performQuiesce params s).state.table = s.table := by
  unfold performQuiesce
  split
  · exact State.reachQuiet_table _
  · rfl

theorem performWake_table (params : ParamWords) :
    (performWake params s).state.table = s.table := by
  unfold performWake
  split
  · rfl
  · exact foldTake_table _ allPorts

theorem performSetFrameLimit_table (params : ParamWords) :
    (performSetFrameLimit params s).state.table = s.table := by
  unfold performSetFrameLimit
  repeat' split
  all_goals rfl

end Sys2Proof.Machine
end

section
/-! PROOFS. The laws of the context table (R20, R21, R26, R127): what each command and event that changes
a record, a binding or the transfer in progress does to them, and that every step keeps them. -/

namespace Sys2Proof.Machine

open Sys2Proof

variable {s u : State}

/-! ## The number of ports bound to a context (R26) -/

/-- The ports other than one that are bound to a context. -/
def State.othersBound (s : State) (p : PortId) (c : ContextId) : Nat :=
  (allPorts.erase p).countP fun q => decide (s.ports[q].binding = some c)

theorem State.portsBound_eq (s : State) (p : PortId) (c : ContextId) :
    s.portsBound c = s.othersBound p c + if s.ports[p].binding = some c then 1 else 0 := by
  have mem : p ∈ allPorts := by revert p; decide
  rw [State.portsBound, ← List.countP_eq_length_filter, (List.perm_cons_erase mem).countP_eq,
    List.countP_cons]
  simp [State.othersBound]

theorem State.othersBound_congr {p : PortId} (c : ContextId)
    (same : ∀ q : PortId, q ≠ p → u.ports[q].binding = s.ports[q].binding) :
    u.othersBound p c = s.othersBound p c := by
  have once : allPorts.Nodup := by decide
  refine List.countP_congr fun q mem => ?_
  rw [same q ((once.mem_erase_iff.mp mem).1)]

theorem State.portsBound_congr (c : ContextId)
    (same : ∀ q : PortId, u.ports[q].binding = s.ports[q].binding) :
    u.portsBound c = s.portsBound c := by
  simp only [State.portsBound, same]

theorem State.portsBound_eq_zero_iff (s : State) (c : ContextId) :
    s.portsBound c = 0 ↔ ∀ p : PortId, s.ports[p].binding ≠ some c := by
  have all (p : PortId) : p ∈ allPorts := by revert p; decide
  simp [State.portsBound, List.filter_eq_nil_iff, all]

/-! ## The mark a transfer puts on its target (R127) -/

/-- The mark of a transfer's target: FENCED when it is fenced, PLAIN when not. -/
def Transfer.mark (t : Transfer) : TransferMark := if t.fence then .fenced else .plain

theorem Transfer.mark_ne_none (t : Transfer) : t.mark ≠ .none := by
  unfold Transfer.mark
  split <;> simp

theorem EngineState.markOn_of_none {e : EngineState} (c : ContextId) (h : e.transfer = none) :
    e.markOn c = .none := by
  simp only [EngineState.markOn, h]

theorem EngineState.markOn_of_some {e : EngineState} {t : Transfer} (c : ContextId)
    (h : e.transfer = some t) : e.markOn c = if t.context = c then t.mark else .none := by
  simp only [EngineState.markOn, h, Transfer.mark]

theorem EngineState.isIdle_iff (e : EngineState) : e.isIdle = true ↔ e = .idle := by
  cases e <;> simp [EngineState.isIdle]

/-! ## Records and their regions (R20, R21) -/

/-- STATE, BASE and PAGES of a record: where its region lies. -/
def Context.region (c : Context) : Bool × Nat × Nat := (c.defined, c.base, c.pages)

theorem Context.region_eq_iff {c d : Context} :
    d.region = c.region ↔ d.defined = c.defined ∧ d.base = c.base ∧ d.pages = c.pages := by
  simp [Context.region]

theorem Context.eq_free_of_lawful {c : Context} (lawful : c.lawful) (free : c.defined = false) :
    c = Context.free := by
  simpa [Context.lawful, free] using lawful

/-- A record with the region of a lawful one is lawful, when a FREE one stays as it is. -/
theorem Context.lawful_of_region {c d : Context} (lawful : c.lawful) (region : d.region = c.region)
    (free : c.defined = false → d = c) : d.lawful := by
  obtain ⟨defined, base, pages⟩ := Context.region_eq_iff.mp region
  cases h : c.defined
  · rw [free h]; exact lawful
  · simpa only [Context.lawful, defined, base, pages, h, if_true] using lawful

theorem State.updateContext_region {c : ContextId} {f : Context → Context}
    (keeps : (f s.contexts[c]).region = s.contexts[c].region) (d : ContextId) :
    (s.updateContext c f).contexts[d].region = s.contexts[d].region := by
  rw [State.updateContext_get]
  split
  · next same => subst same; exact keeps
  · rfl

theorem State.updateContext_of_free {c d : ContextId} (f : Context → Context)
    (defined : s.contexts[c].defined = true) (free : s.contexts[d].defined = false) :
    (s.updateContext c f).contexts[d] = s.contexts[d] :=
  s.updateContext_other c d f fun same => by rw [same, free] at defined; cases defined

/-! ## What the laws rest on -/

/-- The laws speak of the context table alone. -/
theorem State.TableLawful.of_table (h : s.TableLawful) (same : u.table = s.table) :
    u.TableLawful := by
  obtain ⟨contexts, bindings, transfer⟩ := State.table_eq_iff.mp same
  have mark (c : ContextId) : u.engine.state.markOn c = s.engine.state.markOn c := by
    simp only [EngineState.markOn, transfer]
  constructor
  case records => rw [contexts]; exact h.records
  case disjoint => rw [State.regionsDisjoint, contexts]; exact h.disjoint
  case counts =>
    intro c
    rw [contexts, State.portsBound_congr c bindings]
    exact h.counts c
  case bound =>
    intro p c
    rw [contexts, bindings p]
    exact h.bound p c
  case marks => intro c; rw [contexts, mark c]; exact h.marks c
  case run => rw [State.runInRegion, contexts, transfer]; exact h.run

/-- A change that moves no region and no FREE record keeps the laws of R20 and R21; the counts, the
bindings, the marks and the run remain to be shown. -/
theorem State.TableLawful.of_regions (h : s.TableLawful)
    (regions : ∀ c : ContextId, u.contexts[c].region = s.contexts[c].region)
    (free : ∀ c : ContextId, s.contexts[c].defined = false → u.contexts[c] = s.contexts[c])
    (counts : ∀ c : ContextId, u.contexts[c].bindCount = u.portsBound c)
    (bound : ∀ p : PortId, ∀ c ∈ u.ports[p].binding, s.contexts[c].defined = true)
    (marks : ∀ c : ContextId, u.contexts[c].mark = u.engine.state.markOn c)
    (run : ∀ t ∈ u.engine.state.transfer, s.contexts[t.context].defined = true ∧ 1 ≤ t.count ∧
      t.firstPage + t.count ≤ s.contexts[t.context].pages) :
    u.TableLawful := by
  have region (c : ContextId) := Context.region_eq_iff.mp (regions c)
  constructor
  case records => exact fun c => Context.lawful_of_region (h.records c) (regions c) (free c)
  case disjoint =>
    intro c d distinct
    obtain ⟨cDefined, cBase, cPages⟩ := region c
    obtain ⟨dDefined, dBase, dPages⟩ := region d
    rw [cDefined, cBase, cPages, dDefined, dBase, dPages]
    exact h.disjoint c d distinct
  case counts => exact counts
  case bound => exact fun p c mem => (region c).1.trans (bound p c mem)
  case marks => exact marks
  case run =>
    intro t mem
    rw [(region t.context).1, (region t.context).2.2]
    exact run t mem

/-- With every context FREE, every port DETACHED and no transfer the laws hold: the state that a reset
leaves. -/
theorem State.TableLawful.of_free (free : ∀ c : ContextId, s.contexts[c] = Context.free)
    (detached : ∀ p : PortId, s.ports[p].binding = none)
    (idle : s.engine.state.transfer = none) : s.TableLawful := by
  constructor
  case records => intro c; rw [free c]; rfl
  case disjoint =>
    intro c d _ defined
    rw [free c] at defined
    cases defined
  case counts =>
    intro c
    rw [free c, (s.portsBound_eq_zero_iff c).mpr fun p bound => nomatch (detached p).symm.trans bound]
    rfl
  case bound => exact fun p c mem => nomatch (detached p).symm.trans mem
  case marks => intro c; rw [free c, EngineState.markOn_of_none c idle]; rfl
  case run => exact fun t mem => nomatch idle.symm.trans mem

/-! ## DEFINE CONTEXT and DELETE CONTEXT (R22, R24) -/

/-- A record that no port is bound to and no transfer targets can be replaced by a lawful one of BIND
COUNT 0 and mark NONE, whose region, if it is DEFINED, lies apart from the others. -/
theorem State.TableLawful.replace (h : s.TableLawful) {c : ContextId} {record : Context}
    (unbound : ∀ p : PortId, s.ports[p].binding ≠ some c)
    (untargeted : ∀ t ∈ s.engine.state.transfer, t.context ≠ c)
    (count : record.bindCount = 0) (mark : record.mark = .none) (lawful : record.lawful)
    (apart : record.defined = true → ∀ d : ContextId, s.contexts[d].defined = true →
      record.base + record.pages ≤ s.contexts[d].base ∨
        s.contexts[d].base + s.contexts[d].pages ≤ record.base) :
    (s.updateContext c fun _ => record).TableLawful := by
  constructor
  case records =>
    intro d
    rw [State.updateContext_get]
    split
    · exact lawful
    · exact h.records d
  case disjoint =>
    intro d e distinct
    rw [State.updateContext_get, State.updateContext_get]
    by_cases isD : c = d <;> by_cases isE : c = e
    · exact absurd (isD.symm.trans isE) distinct
    · rw [if_pos isD, if_neg isE]
      exact fun now defined => apart now e defined
    · rw [if_neg isD, if_pos isE]
      exact fun defined now => (apart now d defined).symm
    · rw [if_neg isD, if_neg isE]
      exact h.disjoint d e distinct
  case counts =>
    intro d
    refine Eq.trans ?_ (h.counts d)
    rw [State.updateContext_get]
    split
    · next same =>
      subst same
      rw [count, h.counts c, (s.portsBound_eq_zero_iff c).mpr unbound]
    · rfl
  case bound =>
    intro p d mem
    have other : c ≠ d := fun same => unbound p (same ▸ mem)
    rw [s.updateContext_other c d _ other]
    exact h.bound p d mem
  case marks =>
    intro d
    refine Eq.trans ?_ (h.marks d)
    rw [State.updateContext_get]
    split
    · next same =>
      subst same
      rw [mark, h.marks c]
      cases progress : s.engine.state.transfer with
      | none => rw [EngineState.markOn_of_none c progress]
      | some t => rw [EngineState.markOn_of_some c progress, if_neg (untargeted t progress)]
    · rfl
  case run =>
    intro t mem
    rw [s.updateContext_other c t.context _ (untargeted t mem).symm]
    exact h.run t mem

/-- A record that becomes DEFINED was FREE: no port is bound to it and no transfer targets it. -/
theorem State.TableLawful.updateContext_define (h : s.TableLawful) {c : ContextId}
    {base pages : Nat} (readOnly : Bool) (free : s.contexts[c].defined = false)
    (positive : 1 ≤ pages) (inside : base + pages ≤ 2048)
    (apart : ∀ d : ContextId, s.contexts[d].overlaps base pages = false) :
    (s.updateContext c fun _ => ⟨true, base, pages, readOnly, 0, .none⟩).TableLawful := by
  refine h.replace (fun p bound => ?_) (fun t mem same => ?_) rfl rfl ⟨positive, inside⟩
    fun _ d defined => ?_
  · exact Bool.false_ne_true (free.symm.trans (h.bound p c bound))
  · exact Bool.false_ne_true (free.symm.trans (same ▸ (h.run t mem).1))
  · have separate := apart d
    simp only [Context.overlaps, defined, Bool.true_and, Bool.and_eq_false_iff,
      decide_eq_false_iff_not, Nat.not_lt] at separate
    exact separate.symm

theorem State.TableLawful.performDefineContext (h : s.TableLawful) (params : ParamWords) :
    (performDefineContext params s).state.TableLawful := by
  rcases performDefineContext_cases params s with
    eq | ⟨c, base, pages, readOnly, free, positive, inside, apart, eq⟩ <;> rw [eq]
  · exact h
  · exact h.updateContext_define readOnly free positive inside apart

/-- A context out of use has no bound port, by its count, and no transfer, by its mark. -/
theorem State.TableLawful.updateContext_delete (h : s.TableLawful) {c : ContextId}
    (count : s.contexts[c].bindCount = 0) (mark : s.contexts[c].mark = .none) :
    (s.updateContext c fun _ => Context.free).TableLawful := by
  refine h.replace ?_ (fun t mem same => ?_) rfl rfl rfl fun defined => nomatch defined
  · exact (s.portsBound_eq_zero_iff c).mp ((h.counts c).symm.trans count)
  · have target := h.marks c
    rw [EngineState.markOn_of_some c mem, if_pos same, mark] at target
    exact t.mark_ne_none target.symm

theorem State.TableLawful.performDeleteContext (h : s.TableLawful) (params : ParamWords) :
    (performDeleteContext params s).state.TableLawful := by
  rcases performDeleteContext_cases s params with eq | ⟨c, _, unbound, unmarked, eq⟩ <;> rw [eq]
  · exact h
  · exact h.updateContext_delete unbound unmarked

/-! ## BIND PORT and RELEASE PORT (R46, R47) -/

/-- What BIND PORT does to the state: nothing, or a DETACHED port BOUND to a DEFINED context. -/
theorem performBindPort_cases (s : State) (params : ParamWords) :
    (performBindPort params s).state = s ∨
      ∃ p c, s.ports[p].binding = none ∧ s.ports[p].burst = .idle ∧
        s.contexts[c].defined = true ∧
        (performBindPort params s).state =
          (s.updatePort p fun port => { port with binding := some c }).updateContext c
            fun record => { record with bindCount := record.bindCount + 1 } := by
  unfold performBindPort withPort
  split
  · next p _ =>
    dsimp only
    split
    · exact Or.inl rfl
    · next c _ =>
      split
      · exact Or.inl rfl
      · next detached =>
        split
        · exact Or.inl rfl
        · next idle =>
          split
          · exact Or.inl rfl
          · next defined =>
            exact Or.inr ⟨p, c, Option.not_isSome_iff_eq_none.mp detached,
              (Burst.isIdle_iff _).mp (Bool.not_eq_false _ ▸ idle), Bool.not_eq_false _ ▸ defined, rfl⟩
  · exact Or.inl rfl

/-- What RELEASE PORT does to the state: nothing, or a BOUND port DETACHED. -/
theorem performReleasePort_cases (s : State) (params : ParamWords) :
    (performReleasePort params s).state = s ∨
      ∃ p c, s.ports[p].binding = some c ∧ s.ports[p].burst = .idle ∧
        (performReleasePort params s).state =
          (s.updatePort p fun port => { port with binding := none, lookaside := [] }).updateContext c
            fun record => { record with bindCount := record.bindCount - 1 } := by
  unfold performReleasePort withPort
  split
  · next p _ =>
    dsimp only
    split
    · exact Or.inl rfl
    · next c binding =>
      split
      · exact Or.inl rfl
      · next idle =>
        exact Or.inr ⟨p, c, binding, (Burst.isIdle_iff _).mp (Bool.not_eq_false _ ▸ idle), rfl⟩
  · exact Or.inl rfl

/-- A port bound to, or released from, a DEFINED context: the laws hold when its BIND COUNT moves with
the port's binding. -/
theorem State.TableLawful.rebind (h : s.TableLawful) {p : PortId} {c : ContextId}
    {f : Port → Port} {g : Context → Context} (defined : s.contexts[c].defined = true)
    (binding : ∀ d ∈ (f s.ports[p]).binding, d = c)
    (before : ∀ d ∈ s.ports[p].binding, d = c)
    (region : (g s.contexts[c]).region = s.contexts[c].region)
    (mark : (g s.contexts[c]).mark = s.contexts[c].mark)
    (count : (g s.contexts[c]).bindCount =
      s.othersBound p c + if (f s.ports[p]).binding = some c then 1 else 0) :
    ((s.updatePort p f).updateContext c g).TableLawful := by
  have others (d : ContextId) : (s.updatePort p f).othersBound p d = s.othersBound p d :=
    State.othersBound_congr d fun q other => by rw [s.updatePort_other p q f other.symm]
  refine h.of_regions (s.updateContext_region region)
    (fun d => s.updateContext_of_free g defined) (fun d => ?_) (fun q d mem => ?_) (fun d => ?_) h.run
  · have total : ((s.updatePort p f).updateContext c g).portsBound d =
        s.othersBound p d + if (f s.ports[p]).binding = some d then 1 else 0 := by
      rw [← others d, ← s.updatePort_same p f]
      exact State.portsBound_eq _ p d
    rw [total, State.updateContext_get]
    split
    · next same => subst same; exact count
    · next other =>
      have now : (f s.ports[p]).binding ≠ some d := fun eq => other (binding d eq).symm
      have earlier : s.ports[p].binding ≠ some d := fun eq => other (before d eq).symm
      have kept := h.counts d
      rw [s.portsBound_eq p d, if_neg earlier] at kept
      rw [if_neg now]
      exact kept
  · have mem : d ∈ (s.updatePort p f).ports[q].binding := mem
    rw [State.updatePort_get] at mem
    split at mem
    · next same => subst same; rw [binding d mem]; exact defined
    · exact h.bound q d mem
  · refine Eq.trans ?_ (h.marks d)
    rw [State.updateContext_get]
    split
    · next same => subst same; exact mark
    · rfl

theorem State.TableLawful.performBindPort (h : s.TableLawful) (params : ParamWords) :
    (performBindPort params s).state.TableLawful := by
  rcases performBindPort_cases s params with eq | ⟨p, c, detached, _, defined, eq⟩ <;> rw [eq]
  · exact h
  · have count := (h.counts c).trans (s.portsBound_eq p c)
    rw [detached, if_neg (by simp), Nat.add_zero] at count
    refine h.rebind defined (fun d mem => (Option.some.inj mem).symm)
      (fun d mem => nomatch detached.symm.trans mem) rfl rfl ?_
    rw [if_pos rfl, ← count]

theorem State.TableLawful.performReleasePort (h : s.TableLawful) (params : ParamWords) :
    (performReleasePort params s).state.TableLawful := by
  rcases performReleasePort_cases s params with eq | ⟨p, c, binding, _, eq⟩ <;> rw [eq]
  · exact h
  · have count := (h.counts c).trans (s.portsBound_eq p c)
    rw [binding, if_pos rfl] at count
    refine h.rebind (h.bound p c binding) (fun d mem => nomatch mem)
      (fun d mem => (Option.some.inj (binding.symm.trans mem)).symm) rfl rfl ?_
    rw [if_neg (by simp), Nat.add_zero, count, Nat.add_sub_cancel]

end Sys2Proof.Machine
end

section
/-! PROOFS. Transfers and resets against the laws of the context table, and that every step keeps the
laws. -/

namespace Sys2Proof.Machine

open Sys2Proof

variable {s u : State}

/-! ## A mark that moves with the transfer in progress (R127) -/

/-- The laws hold after one mark and ENGINE STATE change together, when each mark is then that of the
transfer in progress and the run of that transfer lies in its region. -/
theorem State.TableLawful.remark (h : s.TableLawful) {c : ContextId} {m : TransferMark}
    {e : EngineState} (defined : s.contexts[c].defined = true)
    (marks : ∀ d : ContextId, (if c = d then m else s.contexts[d].mark) = e.markOn d)
    (run : ∀ t ∈ e.transfer, s.contexts[t.context].defined = true ∧ 1 ≤ t.count ∧
      t.firstPage + t.count ≤ s.contexts[t.context].pages) :
    ((s.updateContext c fun record => { record with mark := m }).setEngineState e).TableLawful := by
  refine h.of_regions (fun d => ?_) (fun d free => ?_) (fun d => ?_) h.bound (fun d => ?_) run
  · rw [State.setEngineState_contexts, s.updateContext_region rfl]
  · rw [State.setEngineState_contexts, s.updateContext_of_free _ defined free]
  · refine Eq.trans ?_ (h.counts d)
    rw [State.setEngineState_contexts, State.updateContext_get]
    split <;> rfl
  · refine Eq.trans ?_ (marks d)
    rw [State.setEngineState_contexts, State.updateContext_get]
    split <;> rfl

/-! ## The start of a transfer (R129, R130) -/

/-- What a start command does to the state: nothing, or the start of a transfer on a run that lies in
the region of a DEFINED context, with no other in progress. -/
theorem performStart_cases (s : State) (context firstPage count : Word) (fence : Option Bool)
    (job : Option TransferJob) :
    (performStart context firstPage count fence job s).state = s ∨
      ∃ t : Transfer, s.engine.state = .idle ∧ s.chip.mode = .running ∧
        s.contexts[t.context].defined = true ∧ 1 ≤ t.count ∧ t.count ≤ 2048 ∧
        t.firstPage + t.count ≤ s.contexts[t.context].pages ∧
        listFault t.job t.count s.chip.frameLimit = none ∧
        (performStart context firstPage count fence job s).state = s.startTransfer t := by
  unfold performStart
  split
  · exact Or.inl rfl
  · next idle =>
    split
    · exact Or.inl rfl
    · next running =>
      split
      · next c f j _ =>
        split
        · exact Or.inl rfl
        · next defined =>
          split
          · exact Or.inl rfl
          · next range =>
            split
            · exact Or.inl rfl
            · next list =>
              simp only [not_or, Nat.not_lt] at range
              obtain ⟨positive, most, inside⟩ := range
              exact Or.inr ⟨⟨j, c, firstPage.toNat, count.toNat, f⟩,
                (EngineState.isIdle_iff _).mp (Bool.not_eq_false _ ▸ idle), not_not.mp running,
                Bool.not_eq_false _ ▸ defined, Nat.one_le_iff_ne_zero.mpr positive, most, inside,
                list, rfl⟩
      · exact Or.inl rfl

/-- The start puts the mark on the target and the transfer in progress, DRAINING or RUNNING. -/
theorem State.startTransfer_table (s : State) (t : Transfer) :
    (s.startTransfer t).table =
      ((s.updateContext t.context fun c => { c with mark := t.mark }).setEngineState
        (.draining t)).table := by
  unfold State.startTransfer Transfer.mark
  dsimp only
  split
  · exact State.endDrain_table _
  · rfl

theorem State.TableLawful.startTransfer (h : s.TableLawful) {t : Transfer}
    (idle : s.engine.state = .idle) (defined : s.contexts[t.context].defined = true)
    (positive : 1 ≤ t.count) (inside : t.firstPage + t.count ≤ s.contexts[t.context].pages) :
    (s.startTransfer t).TableLawful := by
  refine (h.remark (e := .draining t) defined (fun d => ?_) fun t' mem => ?_).of_table
    (s.startTransfer_table t)
  · have unmarked := (h.marks d).trans (EngineState.markOn_of_none d (by rw [idle]; rfl))
    rw [unmarked, EngineState.markOn_of_some d rfl]
  · obtain rfl : t = t' := Option.some.inj mem
    exact ⟨defined, positive, inside⟩

theorem State.TableLawful.performStart (h : s.TableLawful) (context firstPage count : Word)
    (fence : Option Bool) (job : Option TransferJob) :
    (performStart context firstPage count fence job s).state.TableLawful := by
  rcases performStart_cases s context firstPage count fence job with
    eq | ⟨t, idle, _, defined, positive, _, inside, _, eq⟩ <;> rw [eq]
  · exact h
  · exact h.startTransfer idle defined positive inside

/-! ## The end of a transfer (R141) -/

/-- The end takes the mark from the target, and no transfer is in progress. -/
theorem State.endTransfer_table (s : State) (result : OutcomeState) {t : Transfer}
    (progress : s.engine.state.transfer = some t) :
    (s.endTransfer result).table =
      ((s.updateContext t.context fun c => { c with mark := .none }).setEngineState .idle).table := by
  rw [s.endTransfer_of result t progress, State.reachQuiet_table]
  rfl

theorem State.TableLawful.endTransfer (h : s.TableLawful) (result : OutcomeState) :
    (s.endTransfer result).TableLawful := by
  cases progress : s.engine.state.transfer with
  | none => simpa only [State.endTransfer, progress] using h
  | some t =>
    refine (h.remark (m := .none) (e := .idle) (h.run t progress).1 (fun d => ?_)
      fun t' mem => nomatch (mem : none = some t')).of_table (s.endTransfer_table result progress)
    rw [h.marks d, EngineState.markOn_of_some d progress]
    split <;> rfl

theorem State.TableLawful.endWithError (h : s.TableLawful) (start : Word) (marksLost : Nat) :
    (s.endWithError start marksLost).TableLawful := by
  have recorded : (s.updateOutcome fun o =>
      { o with marksLost, failingAddress := some start }).TableLawful := h.of_table rfl
  exact recorded.endTransfer .memoryError

theorem State.TableLawful.grant (h : s.TableLawful) : s.grant.TableLawful :=
  h.of_table s.grant_table

theorem State.TableLawful.freeMemory (h : s.TableLawful) : s.freeMemory.TableLawful :=
  h.of_table rfl

/-! ## The transfer's own events (chapter 8) -/

theorem EngineState.transfer_of_running {e : EngineState} {t : Transfer} {w : Work}
    (running : e = .running t w) : e.transfer = some t := by
  rw [running]; rfl

section Running

variable {t : Transfer} {w : Work}

theorem State.TableLawful.requestChunk (h : s.TableLawful)
    (progress : s.engine.state.transfer = some t) (w : Work) : (s.requestChunk t w).TableLawful :=
  h.of_table (s.requestChunk_table t w progress)

/-- A transfer that stays in progress, wherever its chunk stands. -/
theorem State.TableLawful.setRunning (h : s.TableLawful)
    (progress : s.engine.state.transfer = some t) (w : Work) :
    (s.setEngineState (.running t w)).TableLawful :=
  h.of_table (s.setEngineState_table _ progress.symm)

theorem State.TableLawful.answerLoad (h : s.TableLawful)
    (progress : s.engine.state.transfer = some t) (w : Work) (tr : Transaction)
    (answer : MemoryAnswer) : (s.answerLoad t w tr answer).TableLawful := by
  cases answer with
  | ok words => exact (h.freeMemory.setRunning progress _).grant
  | error => exact (h.freeMemory.endWithError tr.start 0).grant

theorem State.TableLawful.acceptDump (h : s.TableLawful)
    (progress : s.engine.state.transfer = some t) (w : Work) : (s.acceptDump t w).TableLawful := by
  have counted : (s.raiseDone w.chunk.length).TableLawful := h.of_table rfl
  unfold State.acceptDump
  dsimp only
  split
  · exact counted.endTransfer .complete
  · split
    · exact counted.endTransfer .aborted
    · exact counted.setRunning progress _

theorem State.TableLawful.answerDump (h : s.TableLawful)
    (progress : s.engine.state.transfer = some t) (w : Work) (clear : Bool) (tr : Transaction)
    (answer : MemoryAnswer) : (s.answerDump t w clear tr answer).TableLawful := by
  cases answer with
  | ok words => exact (h.freeMemory.acceptDump progress w).grant
  | error => exact (h.freeMemory.endWithError tr.start _).grant

theorem State.TableLawful.continueLoad (h : s.TableLawful)
    (progress : s.engine.state.transfer = some t) (w : Work) (rest : List ChunkImage) :
    (s.continueLoad t w rest).TableLawful := by
  unfold State.continueLoad
  split
  · exact h.endTransfer .complete
  · split
    · exact h.requestChunk progress _
    · exact h.setRunning progress _

theorem State.TableLawful.readForDump (h : s.TableLawful)
    (progress : s.engine.state.transfer = some t) (w : Work) (clear : Bool) :
    (s.readForDump t w clear).TableLawful := by
  have same := s.dumpAccess_table clear (s.runIndex t (s.engine.outcome.done + w.chunk.length))
  have still := (congrArg ContextTable.transfer same).trans progress
  unfold State.readForDump
  dsimp only
  split
  · exact (h.of_table same).setRunning still _
  · exact (h.of_table same).requestChunk still _

theorem State.TableLawful.abortDump (h : s.TableLawful)
    (progress : s.engine.state.transfer = some t) (w : Work) : (s.abortDump t w).TableLawful := by
  unfold State.abortDump
  split
  · exact h.setRunning progress _
  · exact h.setRunning progress _
  all_goals
    split
    · exact h.endTransfer .aborted
    · exact h.requestChunk progress _

theorem State.TableLawful.abort (h : s.TableLawful) : s.abort.TableLawful := by
  unfold State.abort
  split
  · exact h
  · exact h.endTransfer .aborted
  · next t w running =>
    split
    · refine State.TableLawful.endTransfer ?_ .aborted
      split
      · exact h.of_table rfl
      · exact h
    · exact h.endTransfer .aborted
    · exact h.abortDump (EngineState.transfer_of_running running) w

end Running

theorem State.TableLawful.performAbortTransfer (h : s.TableLawful) (params : ParamWords) :
    (performAbortTransfer params s).state.TableLawful := by
  unfold Machine.performAbortTransfer
  split
  · exact h
  · exact h.abort

/-! ## Resets (R32, R185) -/

/-- A soft reset keeps the regions, and leaves no port bound and no transfer. -/
theorem State.TableLawful.softReset (h : s.TableLawful) : s.softReset.TableLawful := by
  have record (c : ContextId) : s.softReset.contexts[c] = s.contexts[c].softReset :=
    Vector.getElem_ofFn _
  have detached (p : PortId) : s.softReset.ports[p].binding = none :=
    congrArg Port.binding (Vector.getElem_ofFn (f := fun p : PortId => s.ports[p].reset) p.isLt)
  refine h.of_regions (fun c => ?_) (fun c free => ?_) (fun c => ?_)
    (fun p c mem => nomatch (detached p).symm.trans mem) (fun c => ?_) fun t mem => nomatch mem
  · rw [record c]; rfl
  · rw [record c, Context.eq_free_of_lawful (h.records c) free]; rfl
  · rw [record c, (State.portsBound_eq_zero_iff _ c).mpr fun p bound =>
      nomatch (detached p).symm.trans bound]
    rfl
  · rw [record c]; rfl

theorem State.pinReset_tableLawful (s : State) : s.pinReset.TableLawful :=
  .of_free (fun _ => Vector.getElem_replicate _)
    (fun p => congrArg Port.binding
      (Vector.getElem_ofFn (f := fun p : PortId => s.ports[p].reset) p.isLt)) rfl

/-! ## Every performance, every command, every step -/

theorem State.TableLawful.performance (h : s.TableLawful) :
    ∀ e ∈ hostPerformances, ∀ params, (e.2 params s).state.TableLawful := by
  simp only [hostPerformances, List.forall_mem_cons]
  exact ⟨h.performDefineContext, h.performDeleteContext,
    fun p => h.of_table (performReadContext_table s p),
    fun p => h.of_table (performEntryWrite_table s .good p),
    fun p => h.of_table (performEntryWrite_table s .bad p),
    fun p => h.of_table (performProbe_table s p), h.performBindPort, h.performReleasePort,
    fun p => h.of_table (performSuspendPort_table s p),
    fun p => h.of_table (performAdmitPort_table s p),
    fun p => h.of_table (performReadPort_table s p),
    fun p => h.of_table (performFlushPort_table s p),
    fun p => h.of_table (performResumeHeld_table s p),
    fun p => h.of_table (performCancelHeld_table s p),
    fun p => h.of_table (performPopFault_table s p),
    fun _ => h.performStart _ _ _ _ _, fun _ => h.performStart _ _ _ _ _,
    fun _ => h.performStart _ _ _ _ _, h.performAbortTransfer,
    fun p => h.of_table (performSetWindow_table s p),
    fun p => h.of_table (performReadWindow_table s p),
    fun p => h.of_table (performQuiesce_table s p), fun p => h.of_table (performWake_table s p),
    fun p => h.of_table (performSetFrameLimit_table s p), fun _ => h.softReset,
    List.forall_mem_nil _⟩

/-- Every command keeps the laws of the context table. -/
theorem State.TableLawful.exec {c : Instr} (h : s.TableLawful) (e : exec c s = .next u) :
    u.TableLawful := by
  refine exec_next_cases (P := State.TableLawful) e h ?host ?unknown ?overrun ?param ?acknowledge
    ?enable ?powerOn ?pin ?release ?present ?withdraw ?opening ?lookup ?resume ?segment ?loadChunk
    ?dumpChunk ?late ?discard ?loadBegin ?loadWrite ?fillWrite ?dumpRead ?complete
  case host =>
    intro code perform event mem
    exact s.hostCommand_keeps code perform event h
      (fun v busy hv => hv.of_table (v.takeCommand_table busy))
      fun v hv _ => (hv.performance _ mem _).of_table rfl
  case unknown => exact fun code => h.of_table (s.takeCommand_table _)
  case powerOn =>
    exact .of_free (fun _ => Vector.getElem_replicate _)
      (fun p => congrArg Port.binding
        (Vector.getElem_ofFn (f := fun p : PortId => s.ports[p].powerOn) p.isLt)) rfl
  case pin => exact fun _ => s.pinReset_tableLawful
  case present =>
    exact fun p r _ _ => h.of_table ((State.tryTake_table _ p).trans (s.setWaiting_table p _))
  case withdraw => exact fun p => h.of_table (s.setWaiting_table p none)
  case opening => exact fun p r _ => h.of_table (s.openBurst_table p r)
  case lookup => exact fun p r walk b _ _ => h.of_table (s.lookupPage_table p b r walk)
  case resume => exact fun p r b _ _ _ => h.of_table (s.splitPages_table p b r)
  case segment =>
    exact fun p _ r segs which answer _ _ _ _ _ =>
      h.of_table (s.answerSegment_table p r segs which answer)
  case loadChunk =>
    exact fun tr t w _ answer _ _ running _ _ _ _ =>
      h.answerLoad (EngineState.transfer_of_running running) w tr answer
  case dumpChunk =>
    exact fun tr t w _ clear answer _ _ running _ _ _ =>
      h.answerDump (EngineState.transfer_of_running running) w clear tr answer
  case late => exact fun _ _ => State.TableLawful.grant (h.of_table rfl)
  case discard => exact fun _ => h.freeMemory.grant
  case loadBegin =>
    exact fun t w _ running _ _ => h.requestChunk (EngineState.transfer_of_running running) w
  case loadWrite =>
    intro t w _ image rest running _ _ _
    have same := s.writeRunEntry_table t (imageFields image.word0)
    exact (h.of_table same).continueLoad
      ((congrArg ContextTable.transfer same).trans (EngineState.transfer_of_running running)) w rest
  case fillWrite =>
    intro t w value _ _
    have written := h.of_table (s.writeRunEntry_table t value)
    split
    · exact written.endTransfer .complete
    · exact written
  case dumpRead =>
    exact fun t w _ clear running _ _ =>
      h.readForDump (EngineState.transfer_of_running running) w clear
  all_goals
    intros
    exact h.of_table rfl

end Sys2Proof.Machine

namespace Sys2Proof.Proofs

open Sys2Proof.Machine

/-- Settles O54: the command taken from the queue runs on the same context table, and every command
keeps its laws. -/
theorem contextTableLaws : Obligations.ContextTableLaws := by
  intro s t h e
  unfold step at e
  split at e
  · cases e; exact h
  · next c rest _ => exact State.TableLawful.exec (s := { s with pending := rest }) (h.of_table rfl) e

end Sys2Proof.Proofs
end

section
/-! PROOFS. The port link (sections 3.1 and 3.3): READY, the take of a waiting request, an answer, a
request presented or withdrawn, and the words put in the burst buffer. -/

namespace Sys2Proof

/-- A request is one that a link can carry: LENGTH words of WRITE DATA, none for a READ (R33). -/
theorem Request.wellFormed_iff (r : Request) :
    r.wellFormed = true ↔ (r.direction = .read → r.data = []) ∧
      (r.direction = .write → r.data.length = r.length.toNat) := by
  cases direction : r.direction <;> simp [Request.wellFormed, direction]

end Sys2Proof

namespace Sys2Proof.Machine

open Sys2Proof Sys2Proof.Statements

variable {s : State} {p : PortId} {r : Request}

/-! ## READY and the take (R35, R36, R38) -/

theorem State.ready_iff_showsReady (s : State) (p : PortId) : s.ready p = true ↔ showsReady s p :=
  s.ready_iff p

/-- READY does not depend on the request that waits (R35). -/
@[simp] theorem State.setWaiting_ready (s : State) (p : PortId) (waiting : Option Request) :
    (s.setWaiting p waiting).ready p = s.ready p := by
  have same : (s.setWaiting p waiting).ports[p] =
      { s.ports[p] with link := { s.ports[p].link with waiting } } := s.updatePort_same p _
  rw [Bool.eq_iff_iff, State.ready_iff, State.ready_iff, same, State.setWaiting_chip]

theorem State.tryTake_of_ready (waiting : s.ports[p].link.waiting = some r)
    (ready : s.ready p = true) : s.tryTake p = s.updatePort p fun port => port.take r := by
  simp only [State.tryTake, waiting, if_pos ready]

theorem State.tryTake_of_no_request (none : s.ports[p].link.waiting = none) : s.tryTake p = s := by
  simp only [State.tryTake, none]

theorem State.tryTake_of_not_ready (busy : ¬ s.ready p = true) : s.tryTake p = s := by
  rcases s.tryTake_cases p with ⟨same, _⟩ | ⟨_, _, ready, _⟩
  · exact same
  · exact absurd ready busy

/-! ## A request presented (R36) -/

theorem State.setWaiting_waiting (s : State) (p : PortId) (waiting : Option Request) :
    (s.setWaiting p waiting).ports[p].link.waiting = waiting :=
  congrArg (fun port : Port => port.link.waiting) (s.updatePort_same p _)

/-- The later of two changes of a port is made to what the earlier one leaves. -/
theorem State.updatePort_updatePort (s : State) (p : PortId) (f g : Port → Port) :
    (s.updatePort p f).updatePort p g = s.updatePort p fun port => g (f port) := by
  simp [State.updatePort]

theorem exec_requestPresented_of_occupied (wellFormed : r.wellFormed = true)
    (occupied : s.ports[p].link.waiting ≠ none) :
    exec (.requestPresented p r) s = .fault .linkOccupied :=
  (if_pos wellFormed).trans (if_pos (Option.isSome_iff_ne_none.mpr occupied))

theorem exec_requestPresented_of_free (wellFormed : r.wellFormed = true)
    (free : s.ports[p].link.waiting = none) :
    exec (.requestPresented p r) s = .next ((s.setWaiting p (some r)).tryTake p) :=
  (if_pos wellFormed).trans (if_neg (Option.not_isSome_iff_eq_none.mpr free))

/-- A request that is taken at once leaves the port as if it had waited on the link before. -/
theorem State.setWaiting_tryTake_of_ready (ready : s.ready p = true) :
    (s.setWaiting p (some r)).tryTake p = putPort s p (taking s.ports[p] r) := by
  rw [State.tryTake_of_ready (s.setWaiting_waiting p _) ((s.setWaiting_ready p _).trans ready)]
  exact s.updatePort_updatePort p _ _

theorem State.setWaiting_tryTake_of_not_ready (busy : ¬ s.ready p = true) :
    (s.setWaiting p (some r)).tryTake p = s.setWaiting p (some r) :=
  State.tryTake_of_not_ready (by rwa [s.setWaiting_ready p])

/-! ## The burst buffer (R38, R102) -/

/-- The positions before the first word and behind the last one keep what they held. -/
theorem writeWords_getElem_outside (buffer : Vector Word 64) (pos : Nat) (words : List Word) {k : Nat}
    (h : k < 64) (outside : k < pos ∨ pos + words.length ≤ k) :
    (writeWords buffer pos words)[k] = buffer[k] := by
  induction words generalizing buffer pos with
  | nil => rfl
  | cons w rest ih =>
    rw [List.length_cons] at outside
    exact (ih (buffer.setIfInBounds pos w) (pos + 1) (by omega)).trans
      (Vector.getElem_setIfInBounds_ne h (by omega))

/-- The words stand in order from the first position on. -/
theorem writeWords_getElem_inside (buffer : Vector Word 64) (pos : Nat) (words : List Word) {j : Nat}
    (h : j < words.length) (fits : pos + words.length ≤ 64) :
    (writeWords buffer pos words)[pos + j]'(by omega) = words[j] := by
  induction words generalizing buffer pos j with
  | nil => exact absurd h (Nat.not_lt_zero j)
  | cons w rest ih =>
    rw [List.length_cons] at h fits
    cases j with
    | zero =>
      exact (writeWords_getElem_outside (buffer.setIfInBounds pos w) (pos + 1) rest (k := pos)
        (by omega) (by omega)).trans (Vector.getElem_setIfInBounds_self (by omega))
    | succ j =>
      have next := ih (buffer.setIfInBounds pos w) (pos + 1) (j := j) (by omega) (by omega)
      simpa only [writeWords, Nat.add_assoc, Nat.add_comm 1 j, List.getElem_cons_succ] using next

theorem readWords_writeWords (buffer : Vector Word 64) (pos : Nat) (words : List Word)
    (fits : pos + words.length ≤ 64) :
    readWords (writeWords buffer pos words) pos words.length = words := by
  refine List.ext_getElem (by simp [readWords]; omega) fun j _ h => ?_
  simp only [readWords, List.getElem_take, List.getElem_drop, Vector.getElem_toList]
  exact writeWords_getElem_inside buffer pos words h fits

end Sys2Proof.Machine

namespace Sys2Proof.Proofs

open Sys2Proof.Machine Sys2Proof.Statements

/-- Settles O27: a request presented is put on the link and taken from it when READY holds; the
buffer is read position by position. -/
theorem requestOnLink : Obligations.RequestOnLink := by
  refine ⟨fun s p => ⟨s.ready_iff_showsReady p, fun r noData data free => ?_, rfl⟩,
    fun buffer pos words fits => ⟨readWords_writeWords buffer pos words fits,
      fun _ h outside => writeWords_getElem_outside buffer pos words h outside⟩⟩
  rw [exec_requestPresented_of_free ((Request.wellFormed_iff r).mpr ⟨noData, data⟩) free,
    ← s.ready_iff_showsReady p]
  exact ⟨fun ready => congrArg _ (State.setWaiting_tryTake_of_ready ready),
    fun busy => congrArg _ (State.setWaiting_tryTake_of_not_ready busy)⟩

/-- Settles O28: an answer is its change of the port, then the take; the take is one change of the
port, or nothing. -/
theorem answerAndTake : Obligations.AnswerAndTake := by
  intro s p
  rw [← s.ready_iff_showsReady p]
  refine ⟨fun _ => rfl, fun r waiting ready => State.tryTake_of_ready waiting ready, ?_⟩
  rintro (none | busy)
  · exact State.tryTake_of_no_request none
  · exact State.tryTake_of_not_ready busy

end Sys2Proof.Proofs
end

section
/-! PROOFS. BIND, RELEASE, SUSPEND, ADMIT and FLUSH PORT (sections 3.4 and 5.4): the checks of each in
order, and the change of the port that follows them. -/

namespace Sys2Proof.Machine

open Sys2Proof Sys2Proof.Statements

variable (s : State)

/-! ## The port number check -/

theorem withPort_of_eq {w : Word} {q : PortId} (h : w.toNat = q.val) (act : PortId → Performed) :
    withPort w s act = act q := by
  simp [withPort, portParam, h]

theorem withPort_of_above {w : Word} (h : 5 < w.toNat) (act : PortId → Performed) :
    withPort w s act = performedFail s .badParameter := by
  rw [withPort, portParam, dif_neg (by omega)]

/-- The check of the number alone, before an act that always succeeds. -/
theorem withPort_performedOk (w : Word) (act : PortId → State) :
    (withPort w s fun p => performedOk (act p)) =
      if h : w.toNat < 6 then performedOk (act ⟨w.toNat, h⟩) else performedFail s .badParameter := by
  by_cases port : w.toNat < 6
  · rw [dif_pos port, withPort_of_eq s (q := ⟨_, port⟩) rfl]
  · rw [dif_neg port, withPort_of_above s (by omega)]

/-- The performance of a command whose one check is that of the port number. -/
theorem State.performCommand_port {code : BitVec 8} (taken : s.command.status = .taken code)
    (w : ParamWords → Word) (act : State → PortId → State) :
    s.performCommand code (fun params s => withPort (w params) s fun p => performedOk (act s p)) =
      if h : (w s.command.latched).toNat < 6 then
        succeeds (act s ⟨(w s.command.latched).toNat, h⟩) code
      else fails s code .badParameter := by
  rw [s.performCommand_taken _ _ taken, withPort_performedOk]
  split <;> rfl

/-! ## BIND PORT (R46) -/

theorem Burst.isIdle_eq_false_iff (b : Burst) : b.isIdle = false ↔ b ≠ .idle := by
  rw [← Bool.not_eq_true, b.isIdle_iff]

/-- BIND PORT is its five checks in order, then the binding and the BIND COUNT raised. -/
theorem performBindPort_eq (p : ParamWords) :
    performBindPort p s =
      if h : p[0].toNat < 6 then
        if k : p[1].toNat < 16 then
          if s.ports[p[0].toNat].binding ≠ none then performedFail s .wrongState
          else if s.ports[p[0].toNat].burst ≠ .idle then performedFail s .portBusy
          else if s.contexts[p[1].toNat].defined = false then performedFail s .notDefined
          else
            performedOk (putContext (putPort s ⟨p[0].toNat, h⟩
                { s.ports[p[0].toNat] with binding := some ⟨p[1].toNat, k⟩ }) ⟨p[1].toNat, k⟩
              { s.contexts[p[1].toNat] with bindCount := s.contexts[p[1].toNat].bindCount + 1 })
        else performedFail s .badParameter
      else performedFail s .badParameter := by
  unfold performBindPort
  by_cases port : p[0].toNat < 6
  · rw [dif_pos port, withPort_of_eq s (q := ⟨_, port⟩) rfl]
    by_cases context : p[1].toNat < 16
    · simp only [dif_pos context, contextParam_of_eq (c := ⟨_, context⟩) rfl,
        Option.isSome_iff_ne_none, Burst.isIdle_eq_false_iff]
      rfl
    · simp only [dif_neg context, contextParam_of_above (Nat.not_lt.mp context)]
  · rw [dif_neg port, withPort_of_above s (by omega)]

/-! ## RELEASE PORT (R47) -/

theorem performReleasePort_of_detached {p : ParamWords} {q : PortId} (port : p[0].toNat = q.val)
    (detached : s.ports[q].binding = none) :
    performReleasePort p s = performedFail s .wrongState := by
  rw [performReleasePort, withPort_of_eq s port]
  simp only [detached]

/-- On a BOUND port, RELEASE PORT is the check of its burst, then the port DETACHED and the BIND COUNT
lowered. -/
theorem performReleasePort_of_bound {p : ParamWords} {q : PortId} {c : ContextId}
    (port : p[0].toNat = q.val) (bound : s.ports[q].binding = some c) :
    performReleasePort p s =
      if s.ports[q].burst ≠ .idle then performedFail s .portBusy
      else
        performedOk (putContext (putPort s q { s.ports[q] with binding := none, lookaside := [] }) c
          { s.contexts[c] with bindCount := s.contexts[c].bindCount - 1 }) := by
  rw [performReleasePort, withPort_of_eq s port]
  simp only [bound, Burst.isIdle_eq_false_iff]
  rfl

end Sys2Proof.Machine

namespace Sys2Proof.Proofs

open Sys2Proof.Machine Sys2Proof.Statements

/-- Settles O24: each performance is its checks in order, then the port and the context record
replaced. -/
theorem bindAndRelease : Obligations.BindAndRelease := by
  refine ⟨fun s taken => ?_, fun s taken => ?_⟩
  · have run : exec (.bindPort .perform) s = .next (s.performCommand 0x30#8 performBindPort) := rfl
    dsimp only
    rw [run, s.performCommand_taken _ _ taken, performBindPort_eq]
    repeat' split
    all_goals rfl
  · have run : exec (.releasePort .perform) s =
        .next (s.performCommand 0x31#8 performReleasePort) := rfl
    dsimp only
    rw [run, s.performCommand_taken _ _ taken]
    refine ⟨fun above => ?_, fun q port => ⟨fun detached => ?_, fun c bound => ?_⟩⟩
    · rw [performReleasePort, withPort_of_above s above]
      rfl
    · rw [performReleasePort_of_detached s port detached]
      rfl
    · rw [performReleasePort_of_bound s port bound]
      split <;> rfl

/-- Settles O25: after the check of the number, each command is one act on the port, in every state. -/
theorem gateAndFlush : Obligations.GateAndFlush := by
  intro s
  exact ⟨fun taken => congrArg Host.Outcome.next (s.performCommand_port taken (fun params => params[0])
      fun s p => s.setGate p .suspended),
    fun taken => congrArg Host.Outcome.next (s.performCommand_port taken (fun params => params[0])
      fun s p => (s.setGate p .admitted).tryTake p),
    fun taken => congrArg Host.Outcome.next (s.performCommand_port taken (fun params => params[0])
      fun s p => s.updatePort p fun port => { port with lookaside := [] })⟩

end Sys2Proof.Proofs
end

section
/-! PROOFS. The stops that are the model's choice (log 4): the answers that breach their transaction, and
the terms that are no command of their row. -/

namespace Sys2Proof.Machine

open Sys2Proof Sys2Proof.Statements

variable {s : State}

/-! ## Answers of the wrong size (R102, R103) -/

/-- Words that are not as many as the transaction reads, or any words to a write, do not fit. -/
theorem Transaction.not_acceptsAnswer {tr : Transaction} {words : List Word}
    (breach : tr.direction = .read ∧ words.length ≠ tr.words ∨
      tr.direction = .write ∧ words ≠ []) : ¬ tr.acceptsAnswer (.ok words) = true := by
  rcases breach with ⟨read, other⟩ | ⟨write, some⟩
  · simpa [Transaction.acceptsAnswer, Transaction.fits, read] using other
  · simpa [Transaction.acceptsAnswer, Transaction.fits, write] using some

/-- The answer that a port's MOVING burst awaits (R106). -/
theorem exec_portTransactionAnswer_of_moving {p : PortId} {tr : Transaction} {r : CurrentRequest}
    {segs : Segments} {which : PageIndex} (holder : s.memory.holder = .requester (.port p))
    (transaction : s.memory.transaction = some tr) (moving : s.ports[p].burst = .moving r segs)
    (segment : tr.segment = some which) (answer : MemoryAnswer) :
    exec (.portTransactionAnswer answer) s =
      if tr.acceptsAnswer answer then .next (s.answerSegment p r segs which answer)
      else .fault .answerWords := by
  simp only [exec, execPortTransactionAnswer, holder, transaction, moving, segment]

/-- The answer that a LOAD's chunk IN FLIGHT awaits (R133). -/
theorem exec_loadChunkAnswer_of_inFlight {tr : Transaction} {t : Transfer} {w : Work} {a : Word}
    (holder : s.memory.holder = .requester .engine) (transaction : s.memory.transaction = some tr)
    (running : s.engine.state = .running t w) (load : t.job = .load a)
    (inFlight : w.stage = some .inFlight) (late : s.engine.late = false) (answer : MemoryAnswer) :
    exec (.loadChunkAnswer answer) s =
      if tr.acceptsAnswer answer then .next (s.answerLoad t w tr answer)
      else .fault .answerWords := by
  simp only [exec, execLoadChunkAnswer, holder, transaction, running, load]
  exact if_pos ⟨inFlight, late⟩

/-! ## Terms that are no command of their row -/

/-- The codes the statements list are those of the command table (section 10.4). -/
theorem hostCommands_codes : hostCommands.map Prod.fst = knownCodes := by decide

theorem exec_unknownCommand_of_known {word : Word} (known : commandCode word ∈ knownCodes) :
    exec (.unknownCommand word) s = .refused .illFormed :=
  if_neg (by simpa [Instr.wellFormed] using known)

theorem isWritableWord_iff (number : Fin 32) :
    isWritableWord number = true ↔
      2 ≤ number.val ∧ number.val ≤ 8 ∨ number.val = 13 ∨ number.val = 14 := by
  simp [isWritableWord, or_assoc]

theorem exec_ignoredRegisterWrite_of_writable {number : Fin 32} (word : Word)
    (writable : isWritableWord number = true) :
    exec (.ignoredRegisterWrite number word) s = .refused .illFormed :=
  if_neg (by simp [Instr.wellFormed, writable])

theorem exec_requestPresented_of_illFormed {r : Request} (p : PortId)
    (illFormed : ¬ r.wellFormed = true) :
    exec (.requestPresented p r) s = .refused .illFormed :=
  if_neg illFormed

end Sys2Proof.Machine

namespace Sys2Proof.Proofs

open Sys2Proof.Machine Sys2Proof.Statements

/-- Settles O4: the event is due and its operand breaches the bus, or the operands make no command of
the row. -/
theorem modelStops : Obligations.ModelStops := by
  refine ⟨fun s p r noData data occupied => ?_,
    fun s tr words transaction breach =>
      ⟨fun p r segs which holder moving segment => ?_,
        fun t w a holder running load inFlight late => ?_⟩,
    fun s => ⟨fun word known => ?_, fun number word writable => ?_, fun p r misfit => ?_,
      fun word words => rfl⟩⟩
  · exact exec_requestPresented_of_occupied ((Request.wellFormed_iff r).mpr ⟨noData, data⟩) occupied
  · rw [exec_portTransactionAnswer_of_moving holder transaction moving segment]
    exact if_neg (Transaction.not_acceptsAnswer breach)
  · rw [exec_loadChunkAnswer_of_inFlight holder transaction running load inFlight late]
    exact if_neg (Transaction.not_acceptsAnswer breach)
  · exact exec_unknownCommand_of_known (hostCommands_codes ▸ known)
  · exact exec_ignoredRegisterWrite_of_writable word ((isWritableWord_iff number).mpr writable)
  · refine exec_requestPresented_of_illFormed p fun wellFormed => ?_
    obtain ⟨noData, data⟩ := (Request.wellFormed_iff r).mp wellFormed
    rcases misfit with ⟨read, carries⟩ | ⟨write, other⟩
    · exact carries (noData read)
    · exact other (data write)

end Sys2Proof.Proofs
end

section
/-! PROOFS. The translation of a burst (chapter 4): the checks of the opening event and the resumption
event in order, and the lookup of a page with its tests and what follows them. -/

namespace Sys2Proof.Machine

open Sys2Proof Sys2Proof.Statements

variable {s : State} {p : PortId} {c : ContextId} {r : CurrentRequest}

/-! ## A chain of checks -/

/-- What is made of a chain of checks is decided by the first that fails. -/
theorem elim_ite_some {α β : Type} (check : Prop) [Decidable check] (x : α) (rest : Option α)
    (pass : β) (fail : α → β) :
    (if check then some x else rest).elim pass fail =
      if check then fail x else rest.elim pass fail := by
  split <;> rfl

/-! ## The page split (R61 to R64) -/

theorem CurrentRequest.passesTop_iff (r : CurrentRequest) :
    r.passesTop = true ↔ 4294967296 < r.address.toNat + 4 * r.length.toNat :=
  decide_eq_true_iff

theorem State.splitPages_eq_split (s : State) (p : PortId) (c : ContextId) (r : CurrentRequest) :
    s.splitPages p c r = split s p c r := by
  simp only [State.splitPages, CurrentRequest.passesTop_iff]
  rfl

/-! ## The opening event (R56 to R59) -/

theorem exec_openingEvent_of_opening (opening : s.ports[p].burst = .opening r) :
    exec (.openingEvent p) s = .next (s.openBurst p r) := by
  simp only [exec, execOpeningEvent, opening]

theorem State.openBurst_of_detached (detached : s.ports[p].binding = none) :
    s.openBurst p r = s.decideFault p r (earlyFault .unbound p none r) := by
  simp only [State.openBurst, detached]
  rfl

/-- A BOUND port's burst meets the format checks, and when all pass the fence check. -/
theorem State.openBurst_of_bound (bound : s.ports[p].binding = some c) :
    s.openBurst p r = (formatFault r s.contexts[c]).elim (s.fenceCheck p c r) fun kind =>
      s.decideFault p r (earlyFault kind p (some c) r) := by
  simp only [State.openBurst, bound]
  cases formatFault r s.contexts[c] <;> rfl

theorem State.fenceCheck_eq (s : State) (p : PortId) (c : ContextId) (r : CurrentRequest) :
    s.fenceCheck p c r =
      if s.contexts[c].mark = .fenced then
        State.settle (putPort s p { s.ports[p] with burst := .fenced r })
      else split s p c r := by
  rw [← s.splitPages_eq_split p c r]
  rfl

/-! ## The resumption event (R60) -/

theorem exec_resumptionEvent_of_fenced (fenced : s.ports[p].burst = .fenced r)
    (bound : s.ports[p].binding = some c) :
    exec (.resumptionEvent p) s =
      .next (if s.contexts[c].mark = .fenced then s else s.splitPages p c r) := by
  simp only [exec, execResumptionEvent, fenced, bound]

/-! ## The port's copy of a page (R65, R86) -/

theorem Fields.carriesMarks_iff (f : Fields) (direction : Direction) :
    f.carriesMarks direction = true ↔
      f.touched = true ∧ (direction = .write → f.dirty = true) := by
  cases direction <;> simp [Fields.carriesMarks]

theorem lookasideHit_eq_none_iff {list : List Copy} {page : Nat} {direction : Direction} :
    lookasideHit list page direction = none ↔
      ∀ copy ∈ list, ¬ (copy.page = page ∧ copy.fields.touched = true ∧
        (direction = .write → copy.fields.dirty = true)) := by
  simp only [lookasideHit, List.find?_eq_none, Bool.and_eq_true, decide_eq_true_iff,
    Fields.carriesMarks_iff]

/-- The only copy of a page is the hit when it carries the marks. -/
theorem lookasideHit_of_only_copy {front back : List Copy} {copy : Copy} {direction : Direction}
    (marks : copy.fields.carriesMarks direction = true)
    (only : ∀ other ∈ front ++ back, other.page ≠ copy.page) :
    lookasideHit (front ++ copy :: back) copy.page direction = some copy := by
  have notInFront : lookasideHit front copy.page direction = none :=
    lookasideHit_eq_none_iff.mpr fun other mem serves =>
      only other (List.mem_append_left back mem) serves.1
  unfold lookasideHit at notInFront ⊢
  simp [List.find?_append, notInFront, marks]

/-- The only copy of a page moves to the front past all the others. -/
theorem moveToFront_of_only_copy {front back : List Copy} {copy : Copy}
    (only : ∀ other ∈ front ++ back, other.page ≠ copy.page) :
    moveToFront (front ++ copy :: back) copy = copy :: (front ++ back) := by
  have others : (front ++ back).filter (fun d => d.page ≠ copy.page) = front ++ back :=
    List.filter_eq_self.mpr (by simpa using only)
  simpa [moveToFront] using others

section Lookup

variable {i page : Nat} {direction : Direction}

theorem State.lookup_of_hit {copy : Copy}
    (hit : lookasideHit s.ports[p].lookaside page direction = some copy) :
    s.lookup p i page direction =
      putPort s p { s.ports[p] with lookaside := moveToFront s.ports[p].lookaside copy } := by
  simp only [State.lookup, hit]
  rfl

theorem State.foundEntry_of_hit {copy : Copy}
    (hit : lookasideHit s.ports[p].lookaside page direction = some copy) :
    s.foundEntry p i page direction = ⟨copy.fields, .good⟩ := by
  simp only [State.foundEntry, hit]

theorem State.lookup_of_miss (miss : lookasideHit s.ports[p].lookaside page direction = none) :
    s.lookup p i page direction = s.readAndMark p i page direction := by
  simp only [State.lookup, miss]

theorem State.foundEntry_of_miss (miss : lookasideHit s.ports[p].lookaside page direction = none) :
    s.foundEntry p i page direction = s.store.entry i := by
  simp only [State.foundEntry, miss]

end Lookup

/-! ## The tests of a page and what follows (R63, R64, R67, R75) -/

section Tests

variable {walk : Walk}

/-- The page after page 1 is the one whose bound check the pass of page 1 makes (R63, R64). -/
theorem State.passPage_eq (s : State) (p : PortId) (c : ContextId) {result : PageResult}
    (page_eq : result.page = r.pageAt walk.currentPage) :
    s.passPage p c r walk result =
      if walk.currentPage = .one ∧ walk.pageCount = .two then
        if s.contexts[c].pages ≤ result.page + 1 then
          s.decideFault p r (faultRecord p (some c) r .bound (some .two) none none)
        else s.setBurst p (.walking r { walk with currentPage := .two, results := [result] })
      else s.watchCompare p r (segmentsOf r walk result) := by
  refine ite_congr rfl (fun firstOfTwo => ?_) fun _ => rfl
  rw [page_eq, firstOfTwo.1]
  rfl

/-- The tests of a page: the fault of the first that fails, or the pass. -/
theorem tested_eq_elim (after : State) (e : MapEntry) (p : PortId) (c : ContextId)
    {page : Nat} (page_eq : page = r.pageAt walk.currentPage) (i words limit : Nat) :
    tested after e p c r walk i page words limit =
      (pageFault e r.direction limit).elim
        (after.passPage p c r walk ⟨page, i, e.fields.frame, words⟩) fun kind =>
          after.decideFault p r (lookupFaultRecord p c r kind walk.currentPage i e) := by
  rw [after.passPage_eq p c page_eq]
  simp only [pageFault, elim_ite_some, Option.elim_none]
  rfl

end Tests

/-! ## The lookup of a page (R65, R66) -/

theorem exec_pageLookup_of_walking {walk : Walk} (walking : s.ports[p].burst = .walking r walk)
    (bound : s.ports[p].binding = some c) :
    exec (.pageLookup p) s = .next (s.lookupPage p c r walk) := by
  simp only [exec, execPageLookup, walking, bound]

/-- A page's lookup is the tests of the entry found, on the state after the access. -/
theorem State.lookupPage_eq_tested (s : State) (p : PortId) (c : ContextId) (r : CurrentRequest)
    (walk : Walk) {page : Nat} (page_eq : page = r.pageAt walk.currentPage) :
    s.lookupPage p c r walk =
      tested (s.lookup p (s.contexts[c].base + page) page r.direction)
        (s.foundEntry p (s.contexts[c].base + page) page r.direction) p c r walk
        (s.contexts[c].base + page) page (r.wordsAt walk.currentPage) s.chip.frameLimit := by
  rw [tested_eq_elim _ _ p c page_eq]
  subst page_eq
  unfold State.lookupPage
  dsimp only
  split
  · next fails => rw [fails, Option.elim_some]
  · next pass => rw [pass, Option.elim_none]

theorem CurrentRequest.ite_pageOf (r : CurrentRequest) (which : PageIndex) :
    (if which = .one then pageOf r else pageOf r + 1) = r.pageAt which := by
  cases which <;> rfl

theorem CurrentRequest.wordsAt_eq (r : CurrentRequest) (which : PageIndex) :
    r.wordsAt which =
      if which = .one then min r.length.toNat ((4096 - r.address.toNat % 4096) / 4)
      else r.length.toNat - min r.length.toNat ((4096 - r.address.toNat % 4096) / 4) := by
  cases which <;> rfl

end Sys2Proof.Machine

namespace Sys2Proof.Proofs

open Sys2Proof.Machine Sys2Proof.Statements

/-- Settles O31: the opening event by the binding, the resumption event by the mark read afresh. -/
theorem openingAndResumption : Obligations.OpeningAndResumption := by
  refine ⟨fun s p r opening => ⟨fun detached => ?_, fun c bound => ?_⟩,
    fun s p r c fenced bound => ?_⟩
  · rw [exec_openingEvent_of_opening opening, State.openBurst_of_detached detached]
  · rw [exec_openingEvent_of_opening opening, State.openBurst_of_bound bound]
    simp only [formatFault, elim_ite_some, Option.elim_none, State.fenceCheck_eq]
  · rw [exec_resumptionEvent_of_fenced fenced bound, s.splitPages_eq_split p c r]

/-- Settles O32: the access and the entry found by hit or miss, then the tests on them. -/
theorem pageLookup : Obligations.PageLookup := by
  intro s p c r walk walking bound page i inPageOne words serves
  have tests : exec (.pageLookup p) s = .next
      (tested (s.lookup p i page r.direction) (s.foundEntry p i page r.direction) p c r walk i page
        words s.chip.frameLimit) := by
    rw [exec_pageLookup_of_walking walking bound,
      s.lookupPage_eq_tested p c r walk (r.ite_pageOf _), r.wordsAt_eq]
  refine ⟨fun front copy back list serving only => ?_, fun unserved => ?_⟩
  · obtain ⟨samePage, marks⟩ := serving
    rw [← samePage] at only
    have hit : lookasideHit s.ports[p].lookaside page r.direction = some copy := by
      rw [list, ← samePage]
      exact lookasideHit_of_only_copy ((Fields.carriesMarks_iff _ _).mpr marks) only
    rw [tests, State.lookup_of_hit hit, State.foundEntry_of_hit hit, list,
      moveToFront_of_only_copy only]
  · have miss : lookasideHit s.ports[p].lookaside page r.direction = none :=
      lookasideHit_eq_none_iff.mpr unserved
    rw [tests, State.lookup_of_miss miss, State.foundEntry_of_miss miss]

end Sys2Proof.Proofs
end

section
/-! PROOFS. The lookaside buffers (R84, R85) port by port: the laws of one port, the operations on a
list of copies, and the change of the state that spares a port's list. -/

namespace Sys2Proof.Machine

open Sys2Proof

variable {s t u : State} {p q : PortId} {c : ContextId}

/-! ## The laws of one port -/

/-- What R85 asks of the list of a port BOUND to a context: at most 8 copies, no two of one entry, each
lawful. -/
structure State.HoldsLawful (s : State) (c : ContextId) (list : List Copy) : Prop where
  short : list.length ≤ 8
  once : (list.map Copy.storeIndex).Nodup
  copies : ∀ copy ∈ list, s.copyLawful c copy

theorem State.listLawful_of_detached (detached : s.ports[p].binding = none) :
    s.listLawful p ↔ s.ports[p].lookaside = [] := by
  simp only [State.listLawful, detached]

theorem State.listLawful_of_bound (bound : s.ports[p].binding = some c) :
    s.listLawful p ↔ s.HoldsLawful c s.ports[p].lookaside := by
  simp only [State.listLawful, bound]
  exact ⟨fun ⟨short, once, copies⟩ => ⟨short, once, copies⟩,
    fun ⟨short, once, copies⟩ => ⟨short, once, copies⟩⟩

theorem State.walkInRegion_iff :
    s.walkInRegion p ↔ ∀ r walk, s.ports[p].burst = .walking r walk →
      ∀ c ∈ s.ports[p].binding, r.pageAt walk.currentPage < s.contexts[c].pages := by
  unfold State.walkInRegion
  cases s.ports[p].burst <;> simp

/-- The laws of R85 at one port, with the bound check its walk has passed (R64). -/
structure State.PortLawful (s : State) (p : PortId) : Prop where
  walk : s.walkInRegion p
  list : s.listLawful p

theorem State.LookasideLawful.port (h : s.LookasideLawful) (q : PortId) : s.PortLawful q :=
  ⟨h.walks q, h.lists q⟩

/-- A port with an empty list that walks no page obeys the laws, DETACHED or BOUND. -/
theorem State.PortLawful.of_empty (empty : s.ports[p].lookaside = [])
    (still : ∀ r walk, s.ports[p].burst ≠ .walking r walk) : s.PortLawful p := by
  refine ⟨State.walkInRegion_iff.mpr fun r walk walking => absurd walking (still r walk), ?_⟩
  cases binding : s.ports[p].binding with
  | none => exact (State.listLawful_of_detached binding).mpr empty
  | some c =>
    refine (State.listLawful_of_bound binding).mpr ?_
    rw [empty]
    exact ⟨by simp, by simp, by simp⟩

theorem State.PortLawful.of_bound (bound : s.ports[p].binding = some c)
    (walk : ∀ r walk, s.ports[p].burst = .walking r walk →
      r.pageAt walk.currentPage < s.contexts[c].pages)
    (list : s.HoldsLawful c s.ports[p].lookaside) : s.PortLawful p := by
  refine ⟨State.walkInRegion_iff.mpr fun r w walking d mem => ?_,
    (State.listLawful_of_bound bound).mpr list⟩
  cases bound.symm.trans mem
  exact walk r w walking

theorem State.PortLawful.page_lt (h : s.PortLawful p) (bound : s.ports[p].binding = some c)
    {r : CurrentRequest} {walk : Walk} (walking : s.ports[p].burst = .walking r walk) :
    r.pageAt walk.currentPage < s.contexts[c].pages :=
  State.walkInRegion_iff.mp h.walk r walk walking c bound

theorem State.PortLawful.holds (h : s.PortLawful p) (bound : s.ports[p].binding = some c) :
    s.HoldsLawful c s.ports[p].lookaside :=
  (State.listLawful_of_bound bound).mp h.list

/-! ## Lists of copies -/

/-- A copy is lawful in a state with the same region for its context and the same entry. -/
theorem State.copyLawful_of_same {copy : Copy} (lawful : s.copyLawful c copy)
    (region : u.contexts[c].region = s.contexts[c].region)
    (entry : u.store.entry copy.storeIndex = s.store.entry copy.storeIndex) :
    u.copyLawful c copy := by
  obtain ⟨_, base, pages⟩ := Context.region_eq_iff.mp region
  rw [State.copyLawful, base, pages, entry]
  exact lawful

/-- Copies may leave a list, and those left stay lawful while their entries stay as they are. -/
theorem State.HoldsLawful.of_sublist {list rest : List Copy} (h : s.HoldsLawful c list)
    (region : u.contexts[c].region = s.contexts[c].region) (sublist : rest.Sublist list)
    (entries : ∀ copy ∈ rest, u.store.entry copy.storeIndex = s.store.entry copy.storeIndex) :
    u.HoldsLawful c rest where
  short := sublist.length_le.trans h.short
  once := h.once.sublist (sublist.map _)
  copies := fun copy mem =>
    State.copyLawful_of_same (h.copies copy (sublist.subset mem)) region (entries copy mem)

/-- A placement makes the one copy of its entry, and the older one may be out of date (R87, R88). -/
theorem State.HoldsLawful.place {list : List Copy} {copy : Copy}
    (once : (list.map Copy.storeIndex).Nodup) (lawful : s.copyLawful c copy)
    (others : ∀ d ∈ list, d.storeIndex ≠ copy.storeIndex → s.copyLawful c d) :
    s.HoldsLawful c (placeCopy list copy) := by
  have kept : (placeCopy list copy).Sublist
      (copy :: list.filter fun d => d.storeIndex ≠ copy.storeIndex) := List.take_sublist 8 _
  have distinct : ((copy :: list.filter fun d => d.storeIndex ≠ copy.storeIndex).map
      Copy.storeIndex).Nodup := by
    refine List.nodup_cons.mpr ⟨?_, once.sublist (List.filter_sublist.map _)⟩
    simp
  refine ⟨List.length_take_le 8 _, distinct.sublist (kept.map _), fun d mem => ?_⟩
  rcases List.mem_cons.mp (kept.subset mem) with rfl | older
  · exact lawful
  · obtain ⟨held, other⟩ := List.mem_filter.mp older
    exact others d held (of_decide_eq_true other)

/-- A hit's copy moves to the front: in one region a page has one entry, so no copy of its entry stays
behind (R86). -/
theorem State.HoldsLawful.moveToFront {list : List Copy} {copy : Copy} (h : s.HoldsLawful c list)
    (held : copy ∈ list) : s.HoldsLawful c (moveToFront list copy) := by
  have rest : (list.filter fun d => d.page ≠ copy.page).Sublist list := List.filter_sublist
  have fewer : (list.filter fun d => d.page ≠ copy.page).length < list.length :=
    List.length_filter_lt_length_iff_exists.mpr ⟨copy, held, by simp⟩
  have gone : copy.storeIndex ∉
      (list.filter fun d => d.page ≠ copy.page).map Copy.storeIndex := by
    intro mem
    obtain ⟨d, left, sameEntry⟩ := List.mem_map.mp mem
    obtain ⟨dHeld, otherPage⟩ := List.mem_filter.mp left
    obtain ⟨_, dIndex, _⟩ := h.copies d dHeld
    obtain ⟨_, index, _⟩ := h.copies copy held
    have : d.page = copy.page := by omega
    exact of_decide_eq_true otherPage this
  refine ⟨fewer.trans_le h.short, List.nodup_cons.mpr ⟨gone, h.once.sublist (rest.map _)⟩,
    fun d mem => ?_⟩
  rcases List.mem_cons.mp mem with rfl | left
  · exact h.copies d held
  · exact h.copies d (rest.subset left)

/-! ## Changes that spare a port's list -/

/-- What most events leave of a port: its binding with its context's region, and of its list every copy
but some that are removed, each of an entry that stays as it is; and they begin no walk. -/
structure State.Spares (s u : State) (q : PortId) : Prop where
  binding : u.ports[q].binding = s.ports[q].binding
  region : ∀ c ∈ s.ports[q].binding, u.contexts[c].region = s.contexts[c].region
  list : u.ports[q].lookaside.Sublist s.ports[q].lookaside
  entries : ∀ copy ∈ u.ports[q].lookaside,
    u.store.entry copy.storeIndex = s.store.entry copy.storeIndex
  walk : ∀ r walk, u.ports[q].burst = .walking r walk → s.ports[q].burst = .walking r walk

/-- A port that is spared keeps the laws. -/
theorem State.PortLawful.of_spares (h : s.PortLawful q) (spared : s.Spares u q) :
    u.PortLawful q := by
  constructor
  case walk =>
    refine State.walkInRegion_iff.mpr fun r walk walking c mem => ?_
    rw [spared.binding] at mem
    rw [(Context.region_eq_iff.mp (spared.region c mem)).2.2]
    exact State.walkInRegion_iff.mp h.walk r walk (spared.walk r walk walking) c mem
  case list =>
    have list := h.list
    cases binding : s.ports[q].binding with
    | none =>
      rw [State.listLawful_of_detached (spared.binding.trans binding)]
      rw [State.listLawful_of_detached binding] at list
      exact List.sublist_nil.mp (list ▸ spared.list)
    | some c =>
      rw [State.listLawful_of_bound (spared.binding.trans binding)]
      rw [State.listLawful_of_bound binding] at list
      exact list.of_sublist (spared.region c binding) spared.list spared.entries

/-- The entries as they are listed decide each entry. -/
theorem MapStore.entry_congr {m n : MapStore} (same : n.entries = m.entries) (i : Nat) :
    n.entry i = m.entry i := by
  unfold MapStore.entry
  rw [same]

/-- A change that leaves the ports and the entries as they are, and the region of the port's context. -/
theorem State.Spares.of_region
    (region : ∀ c ∈ s.ports[q].binding, u.contexts[c].region = s.contexts[c].region)
    (entries : u.store.entries = s.store.entries) (ports : u.ports = s.ports) : s.Spares u q where
  binding := by rw [ports]
  region := region
  list := by rw [ports]
  entries := fun _ _ => MapStore.entry_congr entries _
  walk := fun r walk walking => by rwa [ports] at walking

theorem State.Spares.of_same (contexts : u.contexts = s.contexts)
    (entries : u.store.entries = s.store.entries) (ports : u.ports = s.ports) : s.Spares u q :=
  .of_region (fun _ _ => by rw [contexts]) entries ports

theorem State.Spares.refl (s : State) (q : PortId) : s.Spares s q := .of_same rfl rfl rfl

theorem State.Spares.trans (first : s.Spares t q) (second : t.Spares u q) : s.Spares u q where
  binding := second.binding.trans first.binding
  region := fun c mem =>
    (second.region c (first.binding ▸ mem)).trans (first.region c mem)
  list := second.list.trans first.list
  entries := fun copy mem =>
    (second.entries copy mem).trans (first.entries copy (second.list.subset mem))
  walk := fun r walk walking => first.walk r walk (second.walk r walk walking)

/-- A change made before, outside the contexts, the entries and the ports. -/
theorem State.Spares.after_same (later : t.Spares u q) (contexts : t.contexts = s.contexts)
    (entries : t.store.entries = s.store.entries) (ports : t.ports = s.ports) : s.Spares u q :=
  (State.Spares.of_same contexts entries ports).trans later

/-! ## Updates of the state -/

theorem State.updatePort_spares_other (s : State) (f : Port → Port) (other : p ≠ q) :
    s.Spares (s.updatePort p f) q := by
  have now := s.updatePort_other p q f other
  constructor
  case binding => rw [now]
  case region => exact fun _ _ => rfl
  case list => rw [now]
  case entries => exact fun _ _ => rfl
  case walk => rw [now]; exact fun _ _ => id

theorem State.updatePort_spares (s : State) (p : PortId) {f : Port → Port} (q : PortId)
    (binding : (f s.ports[p]).binding = s.ports[p].binding)
    (list : (f s.ports[p]).lookaside.Sublist s.ports[p].lookaside)
    (walk : ∀ r walk, (f s.ports[p]).burst = .walking r walk →
      s.ports[p].burst = .walking r walk) : s.Spares (s.updatePort p f) q := by
  by_cases same : p = q
  · subst same
    have now := s.updatePort_same p f
    constructor
    case binding => rw [now, binding]
    case region => exact fun _ _ => rfl
    case list => rw [now]; exact list
    case entries => exact fun _ _ => rfl
    case walk => rw [now]; exact walk
  · exact s.updatePort_spares_other f same

/-- A change of one port keeps the laws at every port when it leaves that port, BOUND, with lawful
copies and a walk inside its region. -/
theorem State.updatePort_lawful {f : Port → Port} (h : ∀ q, q ≠ p → s.PortLawful q)
    (bound : (f s.ports[p]).binding = some c)
    (walk : ∀ r walk, (f s.ports[p]).burst = .walking r walk →
      r.pageAt walk.currentPage < s.contexts[c].pages)
    (list : s.HoldsLawful c (f s.ports[p]).lookaside) (q : PortId) :
    (s.updatePort p f).PortLawful q := by
  by_cases same : p = q
  · subst same
    have now := s.updatePort_same p f
    refine .of_bound (by rw [now, bound]) (by rw [now]; exact walk) ?_
    rw [now]
    exact list.of_sublist rfl (.refl _) fun _ _ => rfl
  · exact (h q fun back => same back.symm).of_spares (s.updatePort_spares_other f same)

theorem State.setBurst_spares (s : State) (p : PortId) {burst : Burst} (q : PortId)
    (still : ∀ r walk, burst ≠ .walking r walk) : s.Spares (s.setBurst p burst) q :=
  s.updatePort_spares p q rfl (.refl _) fun r walk walking => absurd walking (still r walk)

theorem State.updateContext_spares (s : State) {c : ContextId} {f : Context → Context} (q : PortId)
    (keeps : s.ports[q].binding = some c → (f s.contexts[c]).region = s.contexts[c].region) :
    s.Spares (s.updateContext c f) q := by
  refine .of_region (fun d mem => ?_) rfl rfl
  rw [State.updateContext_get]
  split
  · next same => subst same; exact keeps mem
  · rfl

/-! ## Takes, answers and faults -/

theorem State.tryTake_spares (s : State) (p q : PortId) : s.Spares (s.tryTake p) q := by
  rcases s.tryTake_cases p with ⟨eq, _⟩ | ⟨r, _, _, eq⟩ <;> rw [eq]
  · exact .refl s q
  · exact s.updatePort_spares p q rfl (.refl _) fun _ _ walking => nomatch walking

theorem foldTake_spares (s : State) (q : PortId) (ports : List PortId) :
    s.Spares (ports.foldl (fun t p => t.tryTake p) s) q := by
  induction ports generalizing s with
  | nil => exact .refl s q
  | cons p rest ih => exact (s.tryTake_spares p q).trans (ih _)

theorem State.answer_spares (s : State) (p : PortId) (a : LinkAnswer) (q : PortId) :
    s.Spares (s.answer p a) q :=
  (s.updatePort_spares p (f := fun port => port.answer a) q rfl (.refl _)
    fun _ _ walking => nomatch walking).trans (State.tryTake_spares _ p q)

theorem State.settle_spares (s : State) (q : PortId) : s.Spares s.settle q :=
  .of_same (by simp) (by simp) (by simp)

theorem State.appendAndAnswer_spares (s : State) (p : PortId) (record : FaultRecord) (q : PortId) :
    s.Spares (s.appendAndAnswer p record) q :=
  (State.answer_spares _ p _ q).after_same rfl rfl rfl

theorem State.stall_spares (s : State) (p : PortId) (r : CurrentRequest) (record : FaultRecord)
    (q : PortId) : s.Spares (s.stall p r record) q :=
  (State.setBurst_spares _ p q (by simp)).after_same rfl rfl rfl

theorem State.decideFault_spares (s : State) (p : PortId) (r : CurrentRequest)
    (record : FaultRecord) (q : PortId) : s.Spares (s.decideFault p r record) q := by
  rcases s.decideFault_cases p r record with ⟨_, eq⟩ | ⟨_, eq⟩ <;> rw [eq]
  · exact (s.appendAndAnswer_spares p record q).trans (State.settle_spares _ q)
  · exact (s.stall_spares p r record q).trans (State.settle_spares _ q)

theorem State.handOff_spares (s : State) (q : PortId) : s.Spares s.handOff q := by
  rcases s.handOff_cases with ⟨eq, _⟩ | ⟨p, record, rest, _, eq⟩ <;> rw [eq]
  · exact .refl s q
  · exact ((State.appendAndAnswer_spares _ p record q).trans
      (State.settle_spares _ q)).after_same rfl rfl rfl

/-! ## The arbiter -/

theorem State.setEngineState_spares (s : State) (e : EngineState) (q : PortId) :
    s.Spares (s.setEngineState e) q :=
  .of_same rfl rfl rfl

theorem State.grantTo_spares (s : State) (r : Requester) (q : PortId) :
    s.Spares (s.grantTo r) q := by
  unfold State.grantTo
  repeat' split
  · exact (State.setBurst_spares _ _ q (by simp)).after_same rfl rfl rfl
  all_goals exact .of_same rfl rfl rfl

theorem State.grant_spares (s : State) (q : PortId) : s.Spares s.grant q := by
  rcases s.grant_cases with ⟨eq, _⟩ | ⟨r, _, _, _, eq⟩ <;> rw [eq]
  · exact .refl s q
  · exact s.grantTo_spares r q

theorem State.freeMemory_spares (s : State) (q : PortId) : s.Spares s.freeMemory q :=
  .of_same rfl rfl rfl

theorem State.requestChunk_spares (s : State) (t : Transfer) (w : Work) (q : PortId) :
    s.Spares (s.requestChunk t w) q :=
  (s.setEngineState_spares _ q).trans (State.grant_spares _ q)

/-! ## Store accesses (R4, R7, R8, R89) -/

/-- A changed entry spares a port that holds no copy of it afterwards. -/
theorem State.removeCopies_spares (s : State) (i : Nat) (e : MapEntry) {except : Option PortId}
    (other : except ≠ some q) :
    s.Spares (State.removeCopies { s with store := s.store.put i e } i except) q := by
  have now := (State.removeCopies_get { s with store := s.store.put i e } i except q).trans
    (if_neg other)
  constructor
  case binding => rw [now]; rfl
  case region => exact fun _ _ => rfl
  case list => rw [now]; exact List.filter_sublist
  case entries =>
    intro copy mem
    rw [now] at mem
    have different : copy.storeIndex ≠ i := of_decide_eq_true (List.mem_filter.mp mem).2
    exact s.store.entry_put_other i _ e different.symm
  case walk => rw [now]; exact fun _ _ => id

theorem State.storeWrite_spares (s : State) (i : Nat) (fields : Fields) (check : Check)
    (q : PortId) : s.Spares (s.storeWrite i fields check) q :=
  s.removeCopies_spares i _ nofun

theorem State.plainRead_spares (s : State) (i : Nat) (q : PortId) : s.Spares (s.plainRead i) q := by
  unfold State.plainRead
  split
  · exact .of_same rfl rfl rfl
  · exact .refl s q

theorem State.dumpAccess_spares (s : State) (clear : Bool) (i : Nat) (q : PortId) :
    s.Spares (s.dumpAccess clear i) q := by
  unfold State.dumpAccess State.readAndClear
  repeat' split
  · exact .of_same rfl rfl rfl
  · exact s.storeWrite_spares i _ .good q
  · exact .refl s q
  · exact s.plainRead_spares i q

theorem State.writeRunEntry_spares (s : State) (t : Transfer) (fields : Fields) (q : PortId) :
    s.Spares (s.writeRunEntry t fields) q :=
  (s.storeWrite_spares _ fields .good q).trans (.of_same rfl rfl rfl)

end Sys2Proof.Machine
end

section
/-! PROOFS. Bursts and transfers against the laws of the lookaside buffers: the answers, the transfers'
events and the walk of a burst, whose lookups alone place a copy or reorder a list. -/

namespace Sys2Proof.Machine

open Sys2Proof

variable {s u : State} {p q : PortId} {c : ContextId}

/-! ## The start and the end of a transfer (R130, R141) -/

/-- A change of the context table that moves one mark at most moves no region. -/
theorem State.Spares.of_marked {d : ContextId} {m : TransferMark} {e : EngineState}
    (table : u.table =
      ((s.updateContext d fun record => { record with mark := m }).setEngineState e).table)
    (entries : u.store.entries = s.store.entries) (ports : u.ports = s.ports) : s.Spares u q := by
  refine .of_region (fun c _ => ?_) entries ports
  rw [(State.table_eq_iff.mp table).1, State.setEngineState_contexts, State.updateContext_region rfl]

theorem State.startTransfer_spares (s : State) (t : Transfer) (q : PortId) :
    s.Spares (s.startTransfer t) q :=
  .of_marked (s.startTransfer_table t) (by simp) (by simp)

theorem State.endTransfer_spares (s : State) (result : OutcomeState) (q : PortId) :
    s.Spares (s.endTransfer result) q := by
  cases progress : s.engine.state.transfer with
  | none => simpa only [State.endTransfer, progress] using State.Spares.refl s q
  | some t => exact .of_marked (s.endTransfer_table result progress) (by simp) (by simp)

theorem State.endWithError_spares (s : State) (start : Word) (marksLost : Nat) (q : PortId) :
    s.Spares (s.endWithError start marksLost) q :=
  (State.endTransfer_spares _ .memoryError q).after_same rfl rfl rfl

/-! ## The transfer's own events (chapter 8) -/

theorem State.answerLoad_spares (s : State) (t : Transfer) (w : Work) (tr : Transaction)
    (answer : MemoryAnswer) (q : PortId) : s.Spares (s.answerLoad t w tr answer) q := by
  refine (s.freeMemory_spares q).trans ?_
  cases answer with
  | ok words => exact (State.setEngineState_spares _ _ q).trans (State.grant_spares _ q)
  | error => exact (State.endWithError_spares _ tr.start 0 q).trans (State.grant_spares _ q)

theorem State.acceptDump_spares (s : State) (t : Transfer) (w : Work) (q : PortId) :
    s.Spares (s.acceptDump t w) q := by
  have counted : s.Spares (s.raiseDone w.chunk.length) q := .of_same rfl rfl rfl
  unfold State.acceptDump
  dsimp only
  split
  · exact counted.trans (State.endTransfer_spares _ .complete q)
  · split
    · exact counted.trans (State.endTransfer_spares _ .aborted q)
    · exact counted.trans (State.setEngineState_spares _ _ q)

theorem State.answerDump_spares (s : State) (t : Transfer) (w : Work) (clear : Bool)
    (tr : Transaction) (answer : MemoryAnswer) (q : PortId) :
    s.Spares (s.answerDump t w clear tr answer) q := by
  refine (s.freeMemory_spares q).trans ?_
  cases answer with
  | ok words => exact (State.acceptDump_spares _ t w q).trans (State.grant_spares _ q)
  | error => exact (State.endWithError_spares _ tr.start _ q).trans (State.grant_spares _ q)

theorem State.continueLoad_spares (s : State) (t : Transfer) (w : Work) (rest : List ChunkImage)
    (q : PortId) : s.Spares (s.continueLoad t w rest) q := by
  unfold State.continueLoad
  split
  · exact s.endTransfer_spares .complete q
  · split
    · exact s.requestChunk_spares t _ q
    · exact s.setEngineState_spares _ q

theorem State.readForDump_spares (s : State) (t : Transfer) (w : Work) (clear : Bool) (q : PortId) :
    s.Spares (s.readForDump t w clear) q := by
  refine (s.dumpAccess_spares clear
    (s.runIndex t (s.engine.outcome.done + w.chunk.length)) q).trans ?_
  unfold State.readForDump
  dsimp only
  split
  · exact State.setEngineState_spares _ _ q
  · exact State.requestChunk_spares _ t _ q

theorem State.abortDump_spares (s : State) (t : Transfer) (w : Work) (q : PortId) :
    s.Spares (s.abortDump t w) q := by
  unfold State.abortDump
  split
  · exact s.setEngineState_spares _ q
  · exact s.setEngineState_spares _ q
  all_goals
    split
    · exact s.endTransfer_spares .aborted q
    · exact s.requestChunk_spares t _ q

theorem State.abort_spares (s : State) (q : PortId) : s.Spares s.abort q := by
  unfold State.abort
  split
  · exact .refl s q
  · exact s.endTransfer_spares .aborted q
  · split
    · refine State.Spares.trans ?_ (State.endTransfer_spares _ .aborted q)
      split <;> exact .of_same rfl rfl rfl
    · exact s.endTransfer_spares .aborted q
    · exact s.abortDump_spares _ _ q

/-! ## Answers to a port's transactions (R106) -/

theorem State.finishBurst_spares (s : State) (p : PortId) (r : CurrentRequest) (q : PortId) :
    s.Spares (s.finishBurst p r) q :=
  (((s.freeMemory_spares q).trans (State.answer_spares _ p _ q)).trans
    (State.settle_spares _ q)).trans (State.grant_spares _ q)

theorem State.memoryFault_spares (s : State) (p : PortId) (r : CurrentRequest) (seg : Segment)
    (q : PortId) : s.Spares (s.memoryFault p r seg) q :=
  ((s.freeMemory_spares q).trans (State.decideFault_spares _ p r _ q)).trans
    (State.grant_spares _ q)

theorem State.answerSegment_spares (s : State) (p : PortId) (r : CurrentRequest) (segs : Segments)
    (which : PageIndex) (answer : MemoryAnswer) (q : PortId) :
    s.Spares (s.answerSegment p r segs which answer) q := by
  cases answer with
  | error => exact s.memoryFault_spares p r _ q
  | ok words =>
    have received : s.Spares (s.receiveWords p (bufferPosition segs which) words) q :=
      s.updatePort_spares p q rfl (.refl _) fun _ _ => id
    unfold State.answerSegment
    dsimp only
    split
    · exact received.trans (.of_same rfl rfl rfl)
    · exact received.trans (State.finishBurst_spares _ p r q)
    · exact received.trans (State.finishBurst_spares _ p r q)

/-! ## The placement of a copy (R87) -/

/-- The port's copy placed after an access to its entry that changed that entry alone and left the
port's list as it was. -/
theorem State.placePortCopy_lawful {copy : Copy} (h : ∀ q, s.PortLawful q)
    (bound : s.ports[p].binding = some c) (others : ∀ q, q ≠ p → s.Spares u q)
    (own : u.ports[p] = s.ports[p]) (contexts : u.contexts = s.contexts)
    (entries : ∀ j, j ≠ copy.storeIndex → u.store.entry j = s.store.entry j)
    (lawful : u.copyLawful c copy) (q : PortId) : (u.placePortCopy p copy).PortLawful q := by
  have list := (h p).holds bound
  refine State.updatePort_lawful (c := c) (fun q other => (h q).of_spares (others q other)) ?_ ?_ ?_ q
  all_goals rw [own]
  · exact bound
  · rw [contexts]
    exact fun r walk walking => (h p).page_lt bound walking
  · refine .place list.once lawful fun d held different => ?_
    exact State.copyLawful_of_same (list.copies d held) (by rw [contexts]) (entries _ different)

/-- A read-and-mark copies the entry as the access leaves it, and a change of marks removes the other
ports' copies (R6, R87). -/
theorem State.readAndMark_lawful {i page : Nat} (direction : Direction)
    (h : ∀ q, s.PortLawful q) (bound : s.ports[p].binding = some c)
    (inside : page < s.contexts[c].pages) (index : i = s.contexts[c].base + page)
    (inStore : i < 2048) (q : PortId) : (s.readAndMark p i page direction).PortLawful q := by
  rcases State.readAndMark_cases p page direction (s := s) (i := i) rfl with
    ⟨_, eq⟩ | ⟨_, _, eq⟩ | ⟨good, valid, _, eq⟩ | ⟨⟨_, valid, _⟩, _, eq⟩ <;> rw [eq]
  · exact (h q).of_spares (.of_same rfl rfl rfl)
  · exact h q
  · refine State.placePortCopy_lawful h bound (fun q _ => .refl s q) rfl rfl (fun _ _ => rfl)
      ⟨inside, index, ?_, valid⟩ q
    rw [← good]
  · refine State.placePortCopy_lawful (u := s.writeMarked p i _) h bound (fun q other => ?_) ?_ rfl
      (fun j different => ?_) ?_ q
    · exact s.removeCopies_spares i _ fun same => other (Option.some.inj same).symm
    · rw [State.writeMarked_port, if_pos rfl]
    · exact s.store.entry_put_other i j _ different.symm
    · exact ⟨inside, index, s.store.entry_put_same i _ inStore, valid⟩

/-! ## The lookup of a page (R65, R66, R86) -/

theorem lookasideHit_mem {list : List Copy} {page : Nat} {direction : Direction} {copy : Copy}
    (hit : lookasideHit list page direction = some copy) : copy ∈ list :=
  List.mem_of_find?_eq_some hit

/-- A hit changes the order of the port's list alone. -/
theorem State.moveToFront_lawful {copy : Copy} (h : ∀ q, s.PortLawful q)
    (bound : s.ports[p].binding = some c) (held : copy ∈ s.ports[p].lookaside) (q : PortId) :
    (s.updatePort p fun port =>
      { port with lookaside := moveToFront port.lookaside copy }).PortLawful q :=
  State.updatePort_lawful (fun q _ => h q) bound (fun _ _ walking => (h p).page_lt bound walking)
    (((h p).holds bound).moveToFront held) q

theorem State.lookup_lawful {i page : Nat} (direction : Direction) (h : ∀ q, s.PortLawful q)
    (bound : s.ports[p].binding = some c) (inside : page < s.contexts[c].pages)
    (index : i = s.contexts[c].base + page) (inStore : i < 2048) (q : PortId) :
    (s.lookup p i page direction).PortLawful q := by
  unfold State.lookup
  split
  · next hit => exact State.moveToFront_lawful h bound (lookasideHit_mem hit) q
  · exact State.readAndMark_lawful direction h bound inside index inStore q

/-! ## The walk of a burst (R61 to R64, R73) -/

/-- A page whose bound check has passed may be walked. -/
theorem State.walking_lawful {r : CurrentRequest} {walk : Walk} (h : ∀ q, s.PortLawful q)
    (bound : s.ports[p].binding = some c)
    (inside : r.pageAt walk.currentPage < s.contexts[c].pages) (q : PortId) :
    (s.setBurst p (.walking r walk)).PortLawful q := by
  refine State.updatePort_lawful (fun q _ => h q) bound (fun r' walk' walking => ?_)
    ((h p).holds bound) q
  cases walking
  exact inside

theorem State.splitPages_lawful (h : ∀ q, s.PortLawful q) (bound : s.ports[p].binding = some c)
    (r : CurrentRequest) (q : PortId) : (s.splitPages p c r).PortLawful q := by
  unfold State.splitPages
  split
  · exact (h q).of_spares (s.decideFault_spares p r _ q)
  · next passed =>
    exact State.walking_lawful (walk := ⟨r.pageCount, .one, []⟩) h bound
      (Nat.not_le.mp (not_or.mp passed).2) q

theorem State.openBurst_lawful (h : ∀ q, s.PortLawful q) (p : PortId) (r : CurrentRequest)
    (q : PortId) : (s.openBurst p r).PortLawful q := by
  unfold State.openBurst
  split
  · exact (h q).of_spares (s.decideFault_spares p r _ q)
  · next c bound =>
    split
    · exact (h q).of_spares (s.decideFault_spares p r _ q)
    · unfold State.fenceCheck
      split
      · exact (h q).of_spares ((s.setBurst_spares p q (by simp)).trans
          (State.settle_spares _ q))
      · exact State.splitPages_lawful h bound r q

theorem State.watchCompare_spares (s : State) (p : PortId) (r : CurrentRequest) (segs : Segments)
    (q : PortId) : s.Spares (s.watchCompare p r segs) q := by
  unfold State.watchCompare
  split
  · refine State.Spares.trans ?_ (State.grant_spares _ q)
    exact (State.setBurst_spares _ p q (by simp)).after_same (by simp) (by simp) (by simp)
  · exact (State.setBurst_spares _ p q (by simp)).after_same rfl rfl rfl

theorem State.passPage_lawful (h : ∀ q, s.PortLawful q) (bound : s.ports[p].binding = some c)
    (r : CurrentRequest) (walk : Walk) (result : PageResult) (q : PortId) :
    (s.passPage p c r walk result).PortLawful q := by
  unfold State.passPage
  split
  · split
    · exact (h q).of_spares (s.decideFault_spares p r _ q)
    · next passed => exact State.walking_lawful h bound (Nat.not_le.mp passed) q
  · exact (h q).of_spares (s.watchCompare_spares p r _ q)

/-- The page walked lies in the region of the port's context, and so its entry in the store. -/
theorem State.lookupPage_lawful {r : CurrentRequest} {walk : Walk} (table : s.TableLawful)
    (h : ∀ q, s.PortLawful q) (walking : s.ports[p].burst = .walking r walk)
    (bound : s.ports[p].binding = some c) (q : PortId) : (s.lookupPage p c r walk).PortLawful q := by
  have inside := (h p).page_lt bound walking
  have record := table.records c
  rw [Context.lawful, if_pos (table.bound p c bound)] at record
  have after := State.lookup_lawful r.direction h bound inside rfl (by omega)
  obtain ⟨_, bindings, _⟩ := State.table_eq_iff.mp (s.lookup_table p
    (s.contexts[c].base + r.pageAt walk.currentPage) (r.pageAt walk.currentPage) r.direction)
  unfold State.lookupPage
  dsimp only
  split
  · exact (after q).of_spares (State.decideFault_spares _ p r _ q)
  · exact State.passPage_lawful after ((bindings p).trans bound) r walk _ q

end Sys2Proof.Machine
end

section
/-! PROOFS. The host commands and the resets against the laws of the lookaside buffers, and that every
step keeps the laws (R85). -/

namespace Sys2Proof.Machine

open Sys2Proof

variable {s u : State}

/-! ## Contexts (R22, R24) -/

/-- A context defined or deleted has no port bound to it, so no list holds copies under it. -/
theorem State.updateContext_spares_of_unbound {c : ContextId} (f : Context → Context)
    (unbound : ∀ p : PortId, s.ports[p].binding ≠ some c) (q : PortId) :
    s.Spares (s.updateContext c f) q :=
  s.updateContext_spares q fun bound => absurd bound (unbound q)

theorem performDefineContext_spares (table : s.TableLawful) (params : ParamWords) (q : PortId) :
    s.Spares (performDefineContext params s).state q := by
  rcases performDefineContext_cases params s with eq | ⟨c, _, _, _, free, _, _, _, eq⟩ <;> rw [eq]
  · exact .refl s q
  · exact State.updateContext_spares_of_unbound _
      (fun p bound => Bool.false_ne_true (free.symm.trans (table.bound p c bound))) q

theorem performDeleteContext_spares (table : s.TableLawful) (params : ParamWords) (q : PortId) :
    s.Spares (performDeleteContext params s).state q := by
  rcases performDeleteContext_cases s params with eq | ⟨c, _, count, _, eq⟩ <;> rw [eq]
  · exact .refl s q
  · exact State.updateContext_spares_of_unbound _
      ((s.portsBound_eq_zero_iff c).mp ((table.counts c).symm.trans count)) q

/-! ## BIND PORT and RELEASE PORT (R46, R47, R93) -/

/-- A port bound or released is left with an empty list and no walk; the others keep theirs, and the
count moves no region. -/
theorem State.rebind_lawful {p : PortId} {c : ContextId} {f : Port → Port} {g : Context → Context}
    (h : ∀ q, s.PortLawful q) (empty : (f s.ports[p]).lookaside = [])
    (idle : (f s.ports[p]).burst = .idle)
    (region : (g s.contexts[c]).region = s.contexts[c].region) (q : PortId) :
    ((s.updatePort p f).updateContext c g).PortLawful q := by
  refine State.PortLawful.of_spares ?_
    (State.updateContext_spares (s.updatePort p f) q fun _ => region)
  by_cases same : p = q
  · subst same
    have now := s.updatePort_same p f
    exact .of_empty (by rw [now, empty]) fun r walk => by rw [now, idle]; exact nofun
  · exact (h q).of_spares (s.updatePort_spares_other f same)

theorem performBindPort_lawful (h : ∀ q, s.PortLawful q) (params : ParamWords) (q : PortId) :
    (performBindPort params s).state.PortLawful q := by
  rcases performBindPort_cases s params with eq | ⟨p, c, detached, idle, _, eq⟩ <;> rw [eq]
  · exact h q
  · exact State.rebind_lawful h ((State.listLawful_of_detached detached).mp (h p).list) idle rfl q

theorem performReleasePort_lawful (h : ∀ q, s.PortLawful q) (params : ParamWords) (q : PortId) :
    (performReleasePort params s).state.PortLawful q := by
  rcases performReleasePort_cases s params with eq | ⟨p, c, _, idle, eq⟩ <;> rw [eq]
  · exact h q
  · exact State.rebind_lawful h rfl idle rfl q

/-! ## The other commands that reach a port, a burst or the store -/

theorem performEntryWrite_spares (s : State) (check : Check) (params : ParamWords) (q : PortId) :
    s.Spares (performEntryWrite check params s).state q := by
  unfold performEntryWrite
  repeat' split
  · exact .refl s q
  · exact .refl s q
  · exact s.storeWrite_spares _ _ check q

theorem performProbe_spares (s : State) (params : ParamWords) (q : PortId) :
    s.Spares (performProbe params s).state q := by
  unfold performProbe
  split
  · exact .refl s q
  · exact s.plainRead_spares _ q

theorem State.setGate_spares (s : State) (p : PortId) (gate : Gate) (q : PortId) :
    s.Spares (s.setGate p gate) q :=
  s.updatePort_spares p q rfl (.refl _) fun _ _ => id

theorem performSuspendPort_spares (s : State) (params : ParamWords) (q : PortId) :
    s.Spares (performSuspendPort params s).state q :=
  withPort_keeps (P := fun t => s.Spares t q) s (.refl s q) fun p => s.setGate_spares p _ q

theorem performAdmitPort_spares (s : State) (params : ParamWords) (q : PortId) :
    s.Spares (performAdmitPort params s).state q :=
  withPort_keeps (P := fun t => s.Spares t q) s (.refl s q) fun p =>
    (s.setGate_spares p _ q).trans (State.tryTake_spares _ p q)

theorem performReadPort_spares (s : State) (params : ParamWords) (q : PortId) :
    s.Spares (performReadPort params s).state q :=
  withPort_keeps (P := fun t => s.Spares t q) s (.refl s q) fun _ => .refl s q

theorem performFlushPort_spares (s : State) (params : ParamWords) (q : PortId) :
    s.Spares (performFlushPort params s).state q :=
  withPort_keeps (P := fun t => s.Spares t q) s (.refl s q) fun p =>
    s.updatePort_spares p (f := fun port => { port with lookaside := [] }) q rfl (List.nil_sublist _)
      fun _ _ => id

theorem performResumeHeld_spares (s : State) (params : ParamWords) (q : PortId) :
    s.Spares (performResumeHeld params s).state q := by
  refine withPort_keeps (P := fun t => s.Spares t q) s (.refl s q) fun p => ?_
  split
  · exact (s.setBurst_spares p q (by simp)).trans (State.grant_spares _ q)
  all_goals exact .refl s q

theorem performCancelHeld_spares (s : State) (params : ParamWords) (q : PortId) :
    s.Spares (performCancelHeld params s).state q := by
  refine withPort_keeps (P := fun t => s.Spares t q) s (.refl s q) fun p => ?_
  split
  · exact s.decideFault_spares p _ _ q
  all_goals exact .refl s q

theorem performPopFault_spares (s : State) (params : ParamWords) (q : PortId) :
    s.Spares (performPopFault params s).state q := by
  unfold performPopFault
  split
  · exact .refl s q
  · exact (State.handOff_spares _ q).after_same rfl rfl rfl

theorem performStart_spares (s : State) (context firstPage count : Word) (fence : Option Bool)
    (job : Option TransferJob) (q : PortId) :
    s.Spares (performStart context firstPage count fence job s).state q := by
  rcases performStart_cases s context firstPage count fence job with
    eq | ⟨t, _, _, _, _, _, _, _, eq⟩ <;> rw [eq]
  · exact .refl s q
  · exact s.startTransfer_spares t q

theorem performAbortTransfer_spares (s : State) (params : ParamWords) (q : PortId) :
    s.Spares (performAbortTransfer params s).state q := by
  unfold performAbortTransfer
  split
  · exact .refl s q
  · exact s.abort_spares q

theorem performQuiesce_spares (s : State) (params : ParamWords) (q : PortId) :
    s.Spares (performQuiesce params s).state q := by
  unfold performQuiesce
  split
  · exact .of_same (State.reachQuiet_contexts _) (by rw [performedOk, State.reachQuiet_store]; rfl)
      (State.reachQuiet_ports _)
  · exact .refl s q

theorem performWake_spares (s : State) (params : ParamWords) (q : PortId) :
    s.Spares (performWake params s).state q := by
  unfold performWake
  split
  · exact .refl s q
  · have running : s.Spares (s.setMode .running) q := .of_same rfl rfl rfl
    exact running.trans (foldTake_spares _ q allPorts)

/-! ## The commands that reach neither -/

theorem performReadContext_spares (s : State) (params : ParamWords) (q : PortId) :
    s.Spares (performReadContext params s).state q := by
  unfold performReadContext
  split <;> exact .refl s q

theorem performSetWindow_spares (s : State) (params : ParamWords) (q : PortId) :
    s.Spares (performSetWindow params s).state q := by
  unfold performSetWindow
  repeat' split
  all_goals exact .of_same rfl rfl rfl

theorem performReadWindow_spares (s : State) (params : ParamWords) (q : PortId) :
    s.Spares (performReadWindow params s).state q := by
  unfold performReadWindow
  split <;> exact .refl s q

theorem performSetFrameLimit_spares (s : State) (params : ParamWords) (q : PortId) :
    s.Spares (performSetFrameLimit params s).state q := by
  unfold performSetFrameLimit
  repeat' split
  all_goals exact .of_same rfl rfl rfl

/-! ## Resets (R53, R93) -/

/-- Every reset leaves each port IDLE with an empty list. -/
theorem State.PortLawful.of_reset {reset : Port → Port}
    (empty : ∀ port, (reset port).lookaside = []) (idle : ∀ port, (reset port).burst = .idle)
    (ports : u.ports = Vector.ofFn fun p : PortId => reset s.ports[p]) (q : PortId) :
    u.PortLawful q := by
  have now : u.ports[q] = reset s.ports[q] := by simp [ports]
  exact .of_empty (by rw [now, empty]) fun r walk => by rw [now, idle]; exact nofun

theorem State.softReset_portLawful (s : State) (q : PortId) : s.softReset.PortLawful q :=
  .of_reset (s := s) (reset := Port.reset) (fun _ => rfl) (fun _ => rfl) rfl q

theorem State.pinReset_portLawful (s : State) (q : PortId) : s.pinReset.PortLawful q :=
  .of_reset (s := s) (reset := Port.reset) (fun _ => rfl) (fun _ => rfl) rfl q

/-! ## Every performance, every command, every step -/

theorem State.takeCommand_spares (s : State) (busy : CommandStatus) (q : PortId) :
    s.Spares (s.takeCommand busy) q := by
  rcases s.takeCommand_cases busy with eq | eq | ⟨_, _, eq⟩
  all_goals
    rw [eq]
    exact .of_same rfl rfl rfl

theorem State.LookasideLawful.performance (h : s.LookasideLawful) (q : PortId) :
    ∀ e ∈ hostPerformances, ∀ params, (e.2 params s).state.PortLawful q := by
  have spared {t : State} (spares : s.Spares t q) : t.PortLawful q := (h.port q).of_spares spares
  simp only [hostPerformances, List.forall_mem_cons]
  exact ⟨fun p => spared (performDefineContext_spares h.table p q),
    fun p => spared (performDeleteContext_spares h.table p q),
    fun p => spared (performReadContext_spares s p q),
    fun p => spared (performEntryWrite_spares s .good p q),
    fun p => spared (performEntryWrite_spares s .bad p q),
    fun p => spared (performProbe_spares s p q),
    fun p => performBindPort_lawful h.port p q, fun p => performReleasePort_lawful h.port p q,
    fun p => spared (performSuspendPort_spares s p q),
    fun p => spared (performAdmitPort_spares s p q),
    fun p => spared (performReadPort_spares s p q),
    fun p => spared (performFlushPort_spares s p q),
    fun p => spared (performResumeHeld_spares s p q),
    fun p => spared (performCancelHeld_spares s p q),
    fun p => spared (performPopFault_spares s p q),
    fun _ => spared (performStart_spares s _ _ _ _ _ q),
    fun _ => spared (performStart_spares s _ _ _ _ _ q),
    fun _ => spared (performStart_spares s _ _ _ _ _ q),
    fun p => spared (performAbortTransfer_spares s p q),
    fun p => spared (performSetWindow_spares s p q),
    fun p => spared (performReadWindow_spares s p q),
    fun p => spared (performQuiesce_spares s p q), fun p => spared (performWake_spares s p q),
    fun p => spared (performSetFrameLimit_spares s p q), fun _ => s.softReset_portLawful q,
    List.forall_mem_nil _⟩

theorem State.LookasideLawful.of_ports (table : s.TableLawful) (ports : ∀ q, s.PortLawful q) :
    s.LookasideLawful :=
  ⟨table, fun q => (ports q).walk, fun q => (ports q).list⟩

/-- A change outside the context table and the buffers. -/
theorem State.LookasideLawful.of_spares (h : s.LookasideLawful) (table : u.table = s.table)
    (spares : ∀ q, s.Spares u q) : u.LookasideLawful :=
  .of_ports (h.table.of_table table) fun q => (h.port q).of_spares (spares q)

theorem State.LookasideLawful.hostCommand (h : s.LookasideLawful) {code : BitVec 8}
    {perform : ParamWords → State → Performed} (mem : (code, perform) ∈ hostPerformances)
    (event : CommandEvent) : (s.hostCommand code perform event).LookasideLawful := by
  refine s.hostCommand_keeps code perform event h
    (fun v busy hv => hv.of_spares (v.takeCommand_table busy) (v.takeCommand_spares busy))
    fun v hv _ => ?_
  refine .of_ports ((hv.table.performance _ mem _).of_table rfl) fun q => ?_
  exact (hv.performance q _ mem _).of_spares (.of_same rfl rfl rfl)

/-- Every command keeps the laws of the lookaside buffers. -/
theorem State.LookasideLawful.exec {i : Instr} (h : s.LookasideLawful) (e : exec i s = .next u) :
    u.LookasideLawful := by
  refine .of_ports (h.table.exec e) ?_
  have spared {t : State} (spares : ∀ q, s.Spares t q) : ∀ q, t.PortLawful q :=
    fun q => (h.port q).of_spares (spares q)
  refine exec_next_cases (P := fun t => ∀ q, t.PortLawful q) e h.port ?host ?unknown ?overrun ?param
    ?acknowledge ?enable ?powerOn ?pin ?release ?present ?withdraw ?opening ?lookup ?resume ?segment
    ?loadChunk ?dumpChunk ?late ?discard ?loadBegin ?loadWrite ?fillWrite ?dumpRead ?complete
  case host => exact fun code perform event mem => (h.hostCommand mem event).port
  case unknown => exact fun code => spared (s.takeCommand_spares _)
  case powerOn =>
    exact .of_reset (s := s) (reset := Port.powerOn) (fun _ => rfl) (fun _ => rfl) rfl
  case pin => exact fun _ => s.pinReset_portLawful
  case present =>
    exact fun p r _ _ => spared fun q =>
      (s.updatePort_spares p q rfl (.refl _) fun _ _ => id).trans (State.tryTake_spares _ p q)
  case withdraw =>
    exact fun p => spared fun q => s.updatePort_spares p q rfl (.refl _) fun _ _ => id
  case opening => exact fun p r _ => State.openBurst_lawful h.port p r
  case lookup =>
    exact fun p r walk c walking bound => State.lookupPage_lawful h.table h.port walking bound
  case resume => exact fun p r c _ bound _ => State.splitPages_lawful h.port bound r
  case segment =>
    exact fun p _ r segs which answer _ _ _ _ _ => spared (s.answerSegment_spares p r segs which answer)
  case loadChunk =>
    exact fun tr t w _ answer _ _ _ _ _ _ _ => spared (s.answerLoad_spares t w tr answer)
  case dumpChunk =>
    exact fun tr t w _ clear answer _ _ _ _ _ _ => spared (s.answerDump_spares t w clear tr answer)
  case late =>
    exact fun _ _ => spared fun q => (State.grant_spares _ q).after_same rfl rfl rfl
  case discard =>
    exact fun _ => spared fun q => (s.freeMemory_spares q).trans (State.grant_spares _ q)
  case loadBegin => exact fun t w _ _ _ _ => spared (s.requestChunk_spares t w)
  case loadWrite =>
    exact fun t w _ image rest _ _ _ _ => spared fun q =>
      (s.writeRunEntry_spares t _ q).trans (State.continueLoad_spares _ t w rest q)
  case fillWrite =>
    intro t w value _ _
    refine spared fun q => (s.writeRunEntry_spares t value q).trans ?_
    split
    · exact State.endTransfer_spares _ .complete q
    · exact .refl _ q
  case dumpRead => exact fun t w _ clear _ _ _ => spared (s.readForDump_spares t w clear)
  all_goals
    intros
    exact (h.port _).of_spares (.of_same rfl rfl rfl)

end Sys2Proof.Machine

namespace Sys2Proof.Proofs

open Sys2Proof.Machine

/-- Settles O55: the command taken from the queue runs on the same lists, and every command keeps their
laws. -/
theorem lookasideLaws : Obligations.LookasideLaws := by
  intro s t h e
  unfold step at e
  split at e
  · cases e; exact h
  · next c rest _ =>
    exact State.LookasideLawful.exec (s := { s with pending := rest })
      (h.of_spares rfl fun q => .of_same rfl rfl rfl) e

end Sys2Proof.Proofs
end

section
/-! PROOFS. The memory port (chapter 6): the order of examination from POINTER on and the grant to the
first requester in it, and memory's answers to a port's transactions. -/

namespace Sys2Proof.Machine

open Sys2Proof Sys2Proof.Statements

variable {s : State}

/-! ## The order of examination (R100) -/

theorem Requester.next_eq_after (r : Requester) : r.next = after r := by
  rcases r with p | _
  · fin_cases p <;> rfl
  · rfl

/-- From POINTER on the requesters are examined turn by turn. -/
theorem Requester.rotation_pairwise_turn (pointer : Requester) :
    pointer.rotation.Pairwise fun q r => turn pointer q < turn pointer r := by
  rcases pointer with p | _
  · fin_cases p <;> decide
  · decide

theorem Requester.place_lt (r : Requester) : Statements.place r < 7 := by
  cases r with
  | port p => exact p.isLt.trans (by decide)
  | engine => decide

theorem Requester.place_ne {q r : Requester} (other : q ≠ r) :
    Statements.place q ≠ Statements.place r := by
  rcases q with p | _ <;> rcases r with x | _
  · exact fun same => other (congrArg Requester.port (Fin.ext same))
  · exact p.isLt.ne
  · exact x.isLt.ne'
  · exact absurd rfl other

theorem Requester.place_after (r : Requester) :
    Statements.place (after r) = (Statements.place r + 1) % 7 := by
  rcases r with p | _
  · fin_cases p <;> rfl
  · rfl

/-- With POINTER just past a requester, its own turn is the last. -/
theorem turn_lt_turn_self {q r : Requester} (other : q ≠ r) :
    turn (after r) q < turn (after r) r := by
  have distinct := Requester.place_ne other
  have below := Requester.place_lt q
  have bound := Requester.place_lt r
  simp only [turn, Requester.place_after]
  omega

/-- In a list that rises by a measure, a search finds the element of least measure with its property. -/
theorem find?_of_least {α : Type} {f : α → Nat} {has : α → Bool} {list : List α} {x : α}
    (rising : list.Pairwise fun a b => f a < f b) (mem : x ∈ list) (own : has x = true)
    (least : ∀ y, has y = true → f x ≤ f y) : list.find? has = some x := by
  obtain ⟨front, back, rfl⟩ := List.append_of_mem mem
  obtain ⟨_, _, across⟩ := List.pairwise_append.mp rising
  have none : ∀ y ∈ front, ¬ has y = true := fun y before has =>
    absurd (across y before x List.mem_cons_self) (Nat.not_lt.mpr (least y has))
  rw [List.find?_append, List.find?_eq_none.mpr none, Option.none_or,
    List.find?_cons_of_pos own]

/-! ## The grant (R99, R100, R101) -/

theorem State.requests_iff_asks (s : State) (r : Requester) : s.requests r = true ↔ asks s r := by
  cases r with
  | port p => exact Burst.isQueued_iff _
  | engine => exact EngineState.isRequesting_iff _

theorem State.grant_of_not_free (held : s.memory.holder ≠ .free) : s.grant = s := by
  rcases s.grant_cases with ⟨eq, _⟩ | ⟨_, free, _, _, _⟩
  · exact eq
  · exact absurd free held

theorem State.grant_of_none_asks (none : ∀ r, ¬ asks s r) : s.grant = s := by
  rcases s.grant_cases with ⟨eq, _⟩ | ⟨r, _, _, requests, _⟩
  · exact eq
  · exact absurd ((s.requests_iff_asks r).mp requests) (none r)

/-- The requester examined first of those that ask is granted the memory port. -/
theorem State.grant_of_first {r : Requester} (free : s.memory.holder = .free) (asking : asks s r)
    (first : ∀ q, asks s q → turn s.memory.pointer r ≤ turn s.memory.pointer q) :
    s.grant = s.grantTo r := by
  have found : s.memory.pointer.rotation.find? (fun q => s.requests q) = some r :=
    find?_of_least (Requester.rotation_pairwise_turn _) (Requester.mem_rotation _ r)
      ((s.requests_iff_asks r).mpr asking) fun q requests =>
        first q ((s.requests_iff_asks q).mp requests)
  simp only [State.grant, if_pos free, found]

/-- A requester that asks gets the memory port with its grant. -/
theorem State.grantTo_holder {r : Requester} (asking : asks s r) :
    (s.grantTo r).memory.holder = .requester r := by
  cases r with
  | port p =>
    obtain ⟨request, segs, queued⟩ := asking
    rw [s.grantTo_port p request segs queued]
    rfl
  | engine =>
    obtain ⟨t, w, running, _⟩ := asking
    rw [s.grantTo_engine t w running]
    rfl

/-- A grant goes to a requester examined no later than any that asks. -/
theorem State.grant_holder_of_asks {q : Requester} (free : s.memory.holder = .free)
    (asking : asks s q) : ∃ r, s.grant.memory.holder = .requester r ∧
      turn s.memory.pointer r ≤ turn s.memory.pointer q := by
  obtain ⟨r, asks, least⟩ :=
    (measure (turn s.memory.pointer)).wf.has_min {r | Statements.asks s r} ⟨q, asking⟩
  have first (x : Requester) (other : Statements.asks s x) :
      turn s.memory.pointer r ≤ turn s.memory.pointer x := Nat.not_lt.mp (least x other)
  exact ⟨r, (State.grant_of_first free asks first) ▸ State.grantTo_holder asks, first q asking⟩

/-! ## Answers to a port's transactions (R106, R107) -/

section Answers

variable {p : PortId} {r : CurrentRequest} {segs : Segments} {which : PageIndex}

/-- An ERROR fits every transaction. -/
theorem Transaction.acceptsAnswer_error (tr : Transaction) : tr.acceptsAnswer .error = true := rfl

/-- Words that are as many as the transaction reads, and none to a write, fit. -/
theorem Transaction.acceptsAnswer_ok {tr : Transaction} {words : List Word}
    (read : tr.direction = .read → words.length = tr.words)
    (write : tr.direction = .write → words = []) : tr.acceptsAnswer (.ok words) = true := by
  cases direction : tr.direction
  · simpa [Transaction.acceptsAnswer, Transaction.fits, direction] using read direction
  · simpa [Transaction.acceptsAnswer, Transaction.fits, direction] using write direction

theorem Segments.segment_eq {seg : Segment}
    (numbered : which = .one ∧ seg = segs.first ∨ which = .two ∧ segs.second = some seg) :
    segs.segment which = seg := by
  rcases numbered with ⟨rfl, rfl⟩ | ⟨rfl, second⟩
  · rfl
  · simp only [Segments.segment, second, Option.getD_some]

theorem bufferPosition_eq (segs : Segments) (which : PageIndex) :
    bufferPosition segs which = if which = .one then 0 else segs.first.words := by
  cases which <;> rfl

/-- An OK answer to segment 1 of two: segment 2 is issued (R102). -/
theorem State.answerSegment_of_first {second : Segment} (words : List Word)
    (two : segs.second = some second) :
    s.answerSegment p r segs .one (.ok words) =
      (s.receiveWords p 0 words).issueSecond p r segs second := by
  simp only [State.answerSegment, two]
  rfl

/-- An OK answer to the last segment: the burst is carried out (R106). -/
theorem State.answerSegment_of_last (words : List Word)
    (last : which = .one ∧ segs.second = none ∨ which = .two) :
    s.answerSegment p r segs which (.ok words) =
      (s.receiveWords p (bufferPosition segs which) words).finishBurst p r := by
  rcases last with ⟨rfl, only⟩ | rfl
  · simp only [State.answerSegment, only]
  · rfl

theorem State.receiveWords_port (s : State) (p : PortId) (pos : Nat) (words : List Word) :
    (s.receiveWords p pos words).ports[p] =
      { s.ports[p] with buffer := writeWords s.ports[p].buffer pos words } :=
  s.updatePort_same p _

end Answers

end Sys2Proof.Machine

namespace Sys2Proof.Proofs

open Sys2Proof.Machine Sys2Proof.Statements

/-- Settles O35: the requester examined first is granted, and its grant is the issue of its first
transaction. -/
theorem grant : Obligations.Grant := by
  refine fun s => ⟨State.grant_of_not_free, State.grant_of_none_asks, fun free =>
    ⟨fun p r segs queued first => ?_, fun t w running requesting first => ?_⟩⟩
  · rw [State.grant_of_first (r := .port p) free ⟨r, segs, queued⟩ first, s.grantTo_port p r segs queued,
      ← Requester.next_eq_after]
    rfl
  · rw [State.grant_of_first (r := .engine) free ⟨t, w, running, requesting⟩ first,
      s.grantTo_engine t w running]
    rfl

/-- Settles O36: the winner is examined no later than the one that asks, and the requester just before
POINTER later than it. -/
theorem grantRotates : Obligations.GrantRotates := by
  intro s r q free pointer asking other
  obtain ⟨winner, holder, first⟩ := State.grant_holder_of_asks free asking
  rw [holder]
  refine ⟨fun same => ?_, nofun⟩
  obtain rfl : winner = r := by simpa using same
  rw [pointer] at first
  exact absurd (turn_lt_turn_self other) (Nat.not_lt.mpr first)

/-- Settles O38: an ERROR always fits and an OK answer by its words; then segment 1 of two, or the last
segment. -/
theorem portTransactionAnswer : Obligations.PortTransactionAnswer := by
  intro s p r segs tr which seg holder transaction segment moving numbered free
  have answered := exec_portTransactionAnswer_of_moving holder transaction moving segment
  constructor
  · rw [answered, if_pos tr.acceptsAnswer_error, ← Segments.segment_eq numbered]
    rfl
  · intro words read write buffer
    rw [answered, if_pos (Transaction.acceptsAnswer_ok read write)]
    refine ⟨fun second one two => ?_, fun last => ?_⟩
    · subst one
      rw [State.answerSegment_of_first words two, State.issueSecond, State.receiveWords_port]
      rfl
    · rw [State.answerSegment_of_last words last, bufferPosition_eq, State.finishBurst,
        State.receiveWords_port]
      rfl

end Sys2Proof.Proofs
end

section
/-! PROOFS. The traffic of the part: what the laws of the fault queue, the memory port and the frame
limit see of a state, and the operations and commands that leave it as it is. -/

namespace Sys2Proof.Machine

open Sys2Proof

variable (s : State)

/-- What the laws of the traffic see of a port. -/
def Port.traffic (port : Port) : Burst × Option ContextId := (port.burst, port.binding)

/-- What the laws of the traffic speak of: the bursts and bindings of P0 to P5, the memory port, the
fault queue, ENGINE STATE with LATE TRANSACTION and DONE, the mode and the frame limit. -/
structure Traffic where
  ports : Vector (Burst × Option ContextId) 6
  memory : MemoryPort
  faults : FaultQueue
  engine : EngineState
  late : Bool
  done : Nat
  mode : Mode
  limit : Nat

/-- The traffic of a state. -/
def State.traffic (s : State) : Traffic :=
  ⟨s.ports.map Port.traffic, s.memory, s.faults, s.engine.state, s.engine.late, s.engine.outcome.done,
    s.chip.mode, s.chip.frameLimit⟩

theorem State.burst_of_traffic {s u : State} (same : u.traffic = s.traffic) (p : PortId) :
    u.ports[p].burst = s.ports[p].burst := by
  have ports := congrArg (·.ports[p]) same
  simp only [State.traffic, Fin.getElem_fin, Vector.getElem_map] at ports
  exact congrArg Prod.fst ports

theorem State.binding_of_traffic {s u : State} (same : u.traffic = s.traffic) (p : PortId) :
    u.ports[p].binding = s.ports[p].binding := by
  have ports := congrArg (·.ports[p]) same
  simp only [State.traffic, Fin.getElem_fin, Vector.getElem_map] at ports
  exact congrArg Prod.snd ports

/-- A change of the ports that leaves the bursts and bindings as they are. -/
theorem State.traffic_of_ports {s : State} {ports : Vector Port 6}
    (same : ∀ p : PortId, ports[p].traffic = s.ports[p].traffic) :
    State.traffic { s with ports } = s.traffic := by
  have views : ports.map Port.traffic = s.ports.map Port.traffic :=
    Vector.ext fun i hi => by simpa using same ⟨i, hi⟩
  simp only [State.traffic, views]

/-! ## Updates of the state -/

theorem State.updatePort_traffic (p : PortId) (f : Port → Port)
    (keeps : (f s.ports[p]).traffic = s.ports[p].traffic) :
    (s.updatePort p f).traffic = s.traffic := by
  refine State.traffic_of_ports fun q => ?_
  rw [← State.updatePort_ports, State.updatePort_get]
  split
  · next same => subst same; exact keeps
  · rfl

@[simp] theorem State.setGate_traffic (p : PortId) (gate : Gate) :
    (s.setGate p gate).traffic = s.traffic :=
  s.updatePort_traffic p _ rfl

@[simp] theorem State.setWaiting_traffic (p : PortId) (waiting : Option Request) :
    (s.setWaiting p waiting).traffic = s.traffic :=
  s.updatePort_traffic p _ rfl

@[simp] theorem State.receiveWords_traffic (p : PortId) (pos : Nat) (words : List Word) :
    (s.receiveWords p pos words).traffic = s.traffic :=
  s.updatePort_traffic p _ rfl

@[simp] theorem State.placePortCopy_traffic (p : PortId) (c : Copy) :
    (s.placePortCopy p c).traffic = s.traffic :=
  s.updatePort_traffic p _ rfl

@[simp] theorem State.removeCopies_traffic (i : Nat) (except : Option PortId) :
    (s.removeCopies i except).traffic = s.traffic := by
  refine State.traffic_of_ports fun q => ?_
  have now := s.removeCopies_get i except q
  rw [State.removeCopies] at now
  rw [now]
  split <;> rfl

@[simp] theorem State.takeCommand_traffic (busy : CommandStatus) :
    (s.takeCommand busy).traffic = s.traffic := by
  rcases s.takeCommand_cases busy with eq | eq | ⟨_, _, eq⟩ <;> rw [eq] <;> rfl

/-! ## Store accesses -/

@[simp] theorem State.plainRead_traffic (i : Nat) : (s.plainRead i).traffic = s.traffic := by
  unfold State.plainRead
  split <;> rfl

@[simp] theorem State.storeWrite_traffic (i : Nat) (fields : Fields) (check : Check) :
    (s.storeWrite i fields check).traffic = s.traffic :=
  State.removeCopies_traffic _ i none

@[simp] theorem State.dumpAccess_traffic (clear : Bool) (i : Nat) :
    (s.dumpAccess clear i).traffic = s.traffic := by
  unfold State.dumpAccess State.readAndClear
  repeat' split
  · rfl
  · exact s.storeWrite_traffic i _ .good
  · rfl
  · exact s.plainRead_traffic i

@[simp] theorem State.readAndMark_traffic (p : PortId) (i page : Nat) (direction : Direction) :
    (s.readAndMark p i page direction).traffic = s.traffic := by
  rcases State.readAndMark_cases p page direction (s := s) (i := i) rfl with
    ⟨_, eq⟩ | ⟨_, _, eq⟩ | ⟨_, _, _, eq⟩ | ⟨_, _, eq⟩ <;> rw [eq]
  · rfl
  · exact s.placePortCopy_traffic p _
  · exact (State.placePortCopy_traffic _ p _).trans (State.removeCopies_traffic _ i (some p))

@[simp] theorem State.lookup_traffic (p : PortId) (i page : Nat) (direction : Direction) :
    (s.lookup p i page direction).traffic = s.traffic := by
  unfold State.lookup
  split
  · exact s.updatePort_traffic p _ rfl
  · exact s.readAndMark_traffic p i page direction

/-- The write of a run entry changes DONE alone. -/
theorem State.writeRunEntry_traffic (t : Transfer) (fields : Fields) :
    (s.writeRunEntry t fields).traffic = (s.raiseDone 1).traffic := by
  have written := s.storeWrite_traffic (s.runIndex t s.engine.outcome.done) fields .good
  exact congrArg (fun view => { view with done := view.done + 1 }) written

/-! ## The watch compare -/

@[simp] theorem State.noteMatches_traffic (p : PortId) (direction : Direction) (segs : Segments) :
    (s.noteMatches p direction segs).traffic = s.traffic := by
  unfold State.noteMatches
  split <;> rfl

/-! ## Performances -/

theorem performDefineContext_traffic (params : ParamWords) :
    (performDefineContext params s).state.traffic = s.traffic := by
  rcases performDefineContext_cases params s with eq | ⟨_, _, _, _, _, _, _, _, eq⟩ <;> rw [eq]
  rfl

theorem performDeleteContext_traffic (params : ParamWords) :
    (performDeleteContext params s).state.traffic = s.traffic := by
  rcases performDeleteContext_cases s params with eq | ⟨_, _, _, _, eq⟩ <;> rw [eq]
  rfl

theorem performReadContext_traffic (params : ParamWords) :
    (performReadContext params s).state.traffic = s.traffic := by
  unfold performReadContext
  split <;> rfl

theorem performEntryWrite_traffic (check : Check) (params : ParamWords) :
    (performEntryWrite check params s).state.traffic = s.traffic := by
  unfold performEntryWrite
  repeat' split
  · rfl
  · rfl
  · exact s.storeWrite_traffic _ _ check

theorem performProbe_traffic (params : ParamWords) :
    (performProbe params s).state.traffic = s.traffic := by
  unfold performProbe
  split
  · rfl
  · exact s.plainRead_traffic _

theorem performSuspendPort_traffic (params : ParamWords) :
    (performSuspendPort params s).state.traffic = s.traffic :=
  withPort_keeps (P := fun t => t.traffic = s.traffic) s rfl fun p => s.setGate_traffic p _

theorem performReadPort_traffic (params : ParamWords) :
    (performReadPort params s).state.traffic = s.traffic :=
  withPort_keeps (P := fun t => t.traffic = s.traffic) s rfl fun _ => rfl

theorem performFlushPort_traffic (params : ParamWords) :
    (performFlushPort params s).state.traffic = s.traffic :=
  withPort_keeps (P := fun t => t.traffic = s.traffic) s rfl fun p => s.updatePort_traffic p _ rfl

theorem performSetWindow_traffic (params : ParamWords) :
    (performSetWindow params s).state.traffic = s.traffic := by
  unfold performSetWindow
  repeat' split
  all_goals rfl

theorem performReadWindow_traffic (params : ParamWords) :
    (performReadWindow params s).state.traffic = s.traffic := by
  unfold performReadWindow
  split <;> rfl

/-! ## A burst that is overwritten -/

/-- An answer ends the burst, whatever it was. -/
theorem State.answer_setBurst (p : PortId) (burst : Burst) (a : LinkAnswer) :
    (s.setBurst p burst).answer p a = s.answer p a := by
  simp only [State.answer, State.setBurst, State.updatePort, Fin.getElem_fin, Vector.getElem_set_self,
    Vector.set_set, Port.answer]

/-- A decided fault ends or stalls the burst, whatever it was. -/
theorem State.decideFault_setBurst (p : PortId) (burst : Burst) (r : CurrentRequest)
    (record : FaultRecord) :
    (s.setBurst p burst).decideFault p r record = s.decideFault p r record := by
  have appended : (s.setBurst p burst).appendAndAnswer p record = s.appendAndAnswer p record :=
    State.answer_setBurst { s with faults := s.faults.append record } p burst _
  have stalled : (s.setBurst p burst).stall p r record = s.stall p r record := by
    simp only [State.stall, State.setBurst, State.updatePort, Fin.getElem_fin,
      Vector.getElem_set_self, Vector.set_set]
  simp only [State.decideFault, appended, stalled, State.setBurst_faults]

end Sys2Proof.Machine
end

section
/-! PROOFS. The laws of the fault queue and the stall list (R112, R113, R116), on which those of the
memory port lean: what each event does to a burst, a binding or a record, and that every command keeps
the laws. -/

namespace Sys2Proof.Machine

open Sys2Proof

variable {s u : State} {p : PortId} {c : ContextId} {r : CurrentRequest}

/-! ## What the laws rest on -/

/-- The laws are kept when the queue and the stall list stay as they are and so do the STALLED ports, and
every burst that needs a binding has one. -/
theorem State.FaultsLawful.of_bursts (h : s.FaultsLawful) (faults : u.faults = s.faults)
    (stalled : ∀ q : PortId, u.ports[q].burst.isStalled = s.ports[q].burst.isStalled)
    (bindings : ∀ q : PortId, u.ports[q].burst.needsBinding = true →
      u.ports[q].binding.isSome = true) : u.FaultsLawful := by
  constructor
  case depth => rw [faults]; exact h.depth
  case numbered => rw [faults]; exact h.numbered
  case stalledOnce => rw [faults]; exact h.stalledOnce
  case stalledPorts => intro q; rw [faults, stalled q]; exact h.stalledPorts q
  case stalledFull => rw [faults]; exact h.stalledFull
  case queued => rw [faults]; exact h.queued
  case waiting => rw [faults]; exact h.waiting
  case bindings => exact bindings

theorem State.FaultsLawful.of_same (h : s.FaultsLawful) (ports : u.ports = s.ports)
    (faults : u.faults = s.faults) : u.FaultsLawful :=
  h.of_bursts faults (fun q => by rw [ports]) fun q => by rw [ports]; exact h.bindings q

theorem State.FaultsLawful.of_traffic (h : s.FaultsLawful) (same : u.traffic = s.traffic) :
    u.FaultsLawful := by
  refine h.of_bursts (congrArg Traffic.faults same)
    (fun q => by rw [State.burst_of_traffic same]) fun q => ?_
  rw [State.burst_of_traffic same, State.binding_of_traffic same]
  exact h.bindings q

/-! ## A port that is not STALLED -/

/-- A port outside the stall list may change, as long as it does not become STALLED. -/
theorem State.FaultsLawful.updatePort {f : Port → Port} (h : s.FaultsLawful)
    (was : s.ports[p].burst.isStalled = false) (now : (f s.ports[p]).burst.isStalled = false)
    (bound : (f s.ports[p]).burst.needsBinding = true → (f s.ports[p]).binding.isSome = true) :
    (s.updatePort p f).FaultsLawful := by
  refine h.of_bursts rfl (fun q => ?_) fun q => ?_
  all_goals
    rw [State.updatePort_get]
    split
  · next same => subst same; rw [was, now]
  · rfl
  · next same => subst same; exact bound
  · exact h.bindings q

theorem State.FaultsLawful.setBurst {burst : Burst} (h : s.FaultsLawful)
    (was : s.ports[p].burst.isStalled = false) (now : burst.isStalled = false)
    (bound : s.ports[p].binding.isSome = true) : (s.setBurst p burst).FaultsLawful :=
  h.updatePort was now fun _ => bound

theorem State.FaultsLawful.tryTake (h : s.FaultsLawful) (p : PortId) :
    (s.tryTake p).FaultsLawful := by
  rcases s.tryTake_cases p with ⟨eq, _⟩ | ⟨r, _, ready, eq⟩ <;> rw [eq]
  · exact h
  · obtain ⟨_, idle, _, _⟩ := (s.ready_iff p).mp ready
    exact h.updatePort (congrArg Burst.isStalled idle) rfl nofun

theorem State.FaultsLawful.foldTake (h : s.FaultsLawful) (ports : List PortId) :
    (ports.foldl (fun t p => t.tryTake p) s).FaultsLawful := by
  induction ports generalizing s with
  | nil => exact h
  | cons p rest ih => exact ih (h.tryTake p)

theorem State.FaultsLawful.answer (h : s.FaultsLawful) (was : s.ports[p].burst.isStalled = false)
    (a : LinkAnswer) : (s.answer p a).FaultsLawful :=
  State.FaultsLawful.tryTake (h.updatePort (f := fun port => port.answer a) was rfl nofun) p

theorem State.FaultsLawful.settle (h : s.FaultsLawful) : s.settle.FaultsLawful :=
  h.of_same s.settle_ports s.settle_faults

/-! ## Appending and stalling (R113 to R116) -/

theorem FaultQueue.numbered_append {queue : FaultQueue} (h : queue.numbered)
    (record : FaultRecord) : (queue.append record).numbered := by
  intro k bound
  have total : (queue.append record).records.length = queue.records.length + 1 := by
    simp [FaultQueue.append]
  rw [total] at bound ⊢
  by_cases older : k < queue.records.length
  · have shift : queue.records.length + 1 - k = (queue.records.length - k) + 1 := by omega
    simp only [FaultQueue.append, List.getElem_append_left older, h k older, shift]
    rw [BitVec.ofNat_add]
    abel
  · obtain rfl : k = queue.records.length := by omega
    simp [FaultQueue.append]

theorem FaultQueue.numbered_tail {queue : FaultQueue} {head : QueuedFault} {rest : List QueuedFault}
    (h : queue.numbered) (records : queue.records = head :: rest) :
    FaultQueue.numbered { queue with records := rest } := by
  intro k bound
  have later := h (k + 1) (by rw [records]; exact Nat.succ_lt_succ bound)
  simpa [records] using later

/-- With room in the queue no port is stalled, and a lawful record may be appended. -/
theorem State.FaultsLawful.append (h : s.FaultsLawful) (room : s.faults.records.length < 16)
    {record : FaultRecord} (lawful : record.lawful) :
    State.FaultsLawful { s with faults := s.faults.append record } := by
  have none : s.faults.stalled = [] := by
    by_contra some
    exact absurd (h.stalledFull some) room.ne
  constructor
  case depth => simpa [FaultQueue.append] using room
  case numbered => exact FaultQueue.numbered_append h.numbered record
  case stalledFull => exact fun some => absurd none some
  case queued =>
    intro queued mem
    rcases List.mem_append.mp mem with older | new
    · exact h.queued queued older
    · obtain rfl := List.mem_singleton.mp new
      exact lawful
  case stalledOnce => exact h.stalledOnce
  case stalledPorts => exact h.stalledPorts
  case waiting => exact h.waiting
  case bindings => exact h.bindings

/-- A full queue stalls a port that was not STALLED, with its lawful record (R116). -/
theorem State.FaultsLawful.stall (h : s.FaultsLawful) (full : 16 ≤ s.faults.records.length)
    (was : s.ports[p].burst.isStalled = false) (r : CurrentRequest) {record : FaultRecord}
    (lawful : record.lawful) (own : record.port = p) : (s.stall p r record).FaultsLawful := by
  have absent : p ∉ s.faults.stalled.map Prod.fst := fun mem =>
    Bool.false_ne_true (was.symm.trans ((h.stalledPorts p).mp mem))
  have burst (q : PortId) : (s.stall p r record).ports[q].burst =
      if p = q then .stalled r else s.ports[q].burst :=
    (congrArg Port.burst (State.setBurst_get _ p q _)).trans (apply_ite Port.burst _ _ _)
  constructor
  case depth => exact h.depth
  case numbered => exact h.numbered
  case stalledOnce =>
    simp only [State.stall, State.setBurst_faults, List.map_append, List.map_cons, List.map_nil]
    exact h.stalledOnce.append (List.nodup_singleton p) (by simpa using absent)
  case stalledPorts =>
    intro q
    rw [burst q]
    simp only [State.stall, State.setBurst_faults, List.map_append, List.map_cons, List.map_nil,
      List.mem_append, List.mem_singleton, h.stalledPorts q]
    split
    · next same => subst same; simp [Burst.isStalled]
    · next other => simp [Ne.symm other]
  case stalledFull => exact fun _ => Nat.le_antisymm h.depth full
  case queued => exact h.queued
  case waiting =>
    intro e mem
    rcases List.mem_append.mp mem with older | new
    · exact h.waiting e older
    · obtain rfl := List.mem_singleton.mp new
      exact ⟨lawful, own⟩
  case bindings =>
    intro q
    obtain ⟨_, bindings, _⟩ := State.table_eq_iff.mp (s.stall_table p r record)
    rw [burst q, bindings q]
    split
    · exact nofun
    · exact h.bindings q

/-- A fault decided for a burst that is not STALLED, with its lawful record (R115). -/
theorem State.FaultsLawful.decideFault (h : s.FaultsLawful)
    (was : s.ports[p].burst.isStalled = false) (r : CurrentRequest) {record : FaultRecord}
    (lawful : record.lawful) (own : record.port = p) : (s.decideFault p r record).FaultsLawful := by
  rcases s.decideFault_cases p r record with ⟨room, eq⟩ | ⟨full, eq⟩ <;> rw [eq]
  · have appended : State.FaultsLawful { s with faults := s.faults.append record } :=
      h.append room lawful
    exact (appended.answer was _).settle
  · exact (h.stall full was r lawful own).settle

/-! ## POP FAULT and the hand-off (R118, R119) -/

/-- The head leaves the queue and no port is stalled. -/
theorem State.FaultsLawful.pop (h : s.FaultsLawful) {head : QueuedFault} {rest : List QueuedFault}
    (records : s.faults.records = head :: rest) (none : s.faults.stalled = []) :
    State.FaultsLawful { s with faults := { s.faults with records := rest } } := by
  have depth := h.depth
  rw [records, List.length_cons] at depth
  constructor
  case depth => exact (Nat.le_succ _).trans depth
  case numbered => exact FaultQueue.numbered_tail h.numbered records
  case stalledFull => exact fun some => absurd none some
  case queued =>
    exact fun queued mem => h.queued queued (by rw [records]; exact List.mem_cons_of_mem _ mem)
  case stalledOnce => exact h.stalledOnce
  case stalledPorts => exact h.stalledPorts
  case waiting => exact h.waiting
  case bindings => exact h.bindings

/-- The head leaves the queue, the record of the port that stalled first takes the room, and the port
leaves STALLED. -/
theorem State.FaultsLawful.handOver (h : s.FaultsLawful) {head : QueuedFault}
    {rest : List QueuedFault} {record : FaultRecord} {others : List (PortId × FaultRecord)}
    (records : s.faults.records = head :: rest)
    (stalled : s.faults.stalled = (p, record) :: others) :
    State.FaultsLawful (State.setBurst { s with
      faults := FaultQueue.append { s.faults with records := rest, stalled := others } record }
      p .idle) := by
  have full := h.stalledFull (by rw [stalled]; exact List.cons_ne_nil _ _)
  rw [records, List.length_cons] at full
  have once := h.stalledOnce
  rw [stalled, List.map_cons, List.nodup_cons] at once
  obtain ⟨absent, once⟩ := once
  constructor
  case depth => simp [FaultQueue.append, full]
  case numbered => exact FaultQueue.numbered_append (FaultQueue.numbered_tail h.numbered records) record
  case stalledOnce => exact once
  case stalledFull => exact fun _ => by simpa [FaultQueue.append] using full
  case stalledPorts =>
    intro q
    rw [State.setBurst_get]
    split
    · next same => subst same; exact ⟨fun mem => absurd mem absent, nofun⟩
    · next other =>
      have before := h.stalledPorts q
      rw [stalled, List.map_cons, List.mem_cons] at before
      exact ⟨fun mem => before.mp (Or.inr mem),
        fun now => (before.mpr now).resolve_left (Ne.symm other)⟩
  case queued =>
    intro queued mem
    rcases List.mem_append.mp mem with older | new
    · exact h.queued queued (by rw [records]; exact List.mem_cons_of_mem _ older)
    · obtain rfl := List.mem_singleton.mp new
      obtain ⟨lawful, _⟩ := h.waiting (p, record) (by rw [stalled]; exact List.mem_cons_self)
      exact lawful
  case waiting =>
    exact fun e mem => h.waiting e (by rw [stalled]; exact List.mem_cons_of_mem _ mem)
  case bindings =>
    intro q
    rw [State.setBurst_get]
    split
    · exact nofun
    · exact h.bindings q

theorem State.FaultsLawful.performPopFault (h : s.FaultsLawful) (params : ParamWords) :
    (performPopFault params s).state.FaultsLawful := by
  unfold Machine.performPopFault
  split
  · exact h
  · next head rest records =>
    rcases State.handOff_cases { s with faults := { s.faults with records := rest } } with
      ⟨eq, none⟩ | ⟨p, record, others, stalled, eq⟩ <;> dsimp only <;> rw [eq]
    · exact h.pop records none
    · refine State.FaultsLawful.settle ?_
      rw [State.appendAndAnswer, ← State.answer_setBurst _ p .idle]
      exact (h.handOver records stalled).answer
        (congrArg (fun port : Port => port.burst.isStalled) (State.updatePort_same _ p _)) _

/-! ## The records of decided faults (R78, R107, R112, R159) -/

theorem formatFault_fields {record : Context} {kind : FaultKind}
    (fails : formatFault r record = some kind) : kind.fields = (true, false, false, false) := by
  unfold formatFault at fails
  repeat' split at fails
  all_goals
    cases fails
  all_goals rfl

/-- The faults that the tests of a page decide carry the store index, and the frame unless the entry
could not be used. -/
theorem pageFault_fields {e : MapEntry} {direction : Direction} {limit : Nat} {kind : FaultKind}
    (fails : pageFault e direction limit = some kind) :
    kind.fields = (true, true, true, decide (¬ (kind = .parity ∨ kind = .invalid))) := by
  unfold pageFault at fails
  repeat' split at fails
  all_goals
    cases fails
  all_goals rfl

theorem lookupFaultRecord_lawful {e : MapEntry} {limit i : Nat} {kind : FaultKind}
    {which : PageIndex} (fails : pageFault e r.direction limit = some kind) :
    (lookupFaultRecord p c r kind which i e).lawful := by
  refine Eq.trans ?_ (pageFault_fields fails).symm
  unfold lookupFaultRecord faultRecord
  dsimp only
  split <;> simp [*]

/-- A fault decided after translation, WATCH or MEMORY, carries every field. -/
theorem segmentRecord_lawful {kind : FaultKind} {seg : Segment} {context : Option ContextId}
    (bound : context.isSome = true) (fields : kind.fields = (true, true, true, true)) :
    (segmentRecord p context r kind seg).lawful := by
  refine Eq.trans ?_ fields.symm
  simp [segmentRecord, faultRecord, bound]

/-! ## The arbiter (R100) -/

theorem State.FaultsLawful.grant (h : s.FaultsLawful) : s.grant.FaultsLawful := by
  rcases s.grant_cases with ⟨eq, _⟩ | ⟨q, _, _, requests, eq⟩ <;> rw [eq]
  · exact h
  · cases q with
    | port p =>
      obtain ⟨r, segs, queued⟩ := (Burst.isQueued_iff _).mp requests
      rw [s.grantTo_port p r segs queued]
      exact State.FaultsLawful.setBurst (h.of_same rfl rfl) (congrArg Burst.isStalled queued) rfl
        (h.bindings p (congrArg Burst.needsBinding queued))
    | engine =>
      obtain ⟨t, w, running, _⟩ := (EngineState.isRequesting_iff _).mp requests
      rw [s.grantTo_engine t w running]
      exact h.of_same rfl rfl

/-! ## Translation (chapter 4) and the watch compare (chapter 9) -/

theorem State.FaultsLawful.splitPages (h : s.FaultsLawful)
    (was : s.ports[p].burst.isStalled = false) (bound : s.ports[p].binding = some c)
    (r : CurrentRequest) : (s.splitPages p c r).FaultsLawful := by
  unfold State.splitPages
  split
  · exact h.decideFault was r rfl rfl
  · exact h.setBurst was rfl (bound ▸ rfl)

theorem State.FaultsLawful.openBurst (h : s.FaultsLawful)
    (was : s.ports[p].burst.isStalled = false) (r : CurrentRequest) :
    (s.openBurst p r).FaultsLawful := by
  unfold State.openBurst
  split
  · exact h.decideFault was r rfl rfl
  · next c bound =>
    split
    · next kind fails => exact h.decideFault was r (formatFault_fields fails).symm rfl
    · unfold State.fenceCheck
      split
      · exact (h.setBurst (burst := .fenced r) was rfl (bound ▸ rfl)).settle
      · exact h.splitPages was bound r

theorem State.FaultsLawful.watchCompare (h : s.FaultsLawful)
    (was : s.ports[p].burst.isStalled = false) (bound : s.ports[p].binding.isSome = true)
    (r : CurrentRequest) (segs : Segments) : (s.watchCompare p r segs).FaultsLawful := by
  have noted := s.noteMatches_traffic p r.direction segs
  unfold State.watchCompare
  split
  · have hits : ((s.noteMatches p r.direction segs).recordHits p r segs).FaultsLawful :=
      h.of_traffic noted
    refine (hits.setBurst ?_ rfl ?_).grant
    · rw [State.recordHits_ports, State.noteMatches_ports]; exact was
    · rw [State.recordHits_ports, State.noteMatches_ports]; exact bound
  · have hits : (s.recordHits p r segs).FaultsLawful := h.of_same rfl rfl
    exact hits.setBurst was rfl bound

theorem State.FaultsLawful.passPage (h : s.FaultsLawful)
    (was : s.ports[p].burst.isStalled = false) (bound : s.ports[p].binding = some c)
    (r : CurrentRequest) (walk : Walk) (result : PageResult) :
    (s.passPage p c r walk result).FaultsLawful := by
  unfold State.passPage
  split
  · split
    · exact h.decideFault was r rfl rfl
    · exact h.setBurst was rfl (bound ▸ rfl)
  · exact h.watchCompare was (bound ▸ rfl) r _

theorem State.FaultsLawful.lookupPage (h : s.FaultsLawful)
    (was : s.ports[p].burst.isStalled = false) (bound : s.ports[p].binding = some c)
    (r : CurrentRequest) (walk : Walk) : (s.lookupPage p c r walk).FaultsLawful := by
  have same := s.lookup_traffic p (s.contexts[c].base + r.pageAt walk.currentPage)
    (r.pageAt walk.currentPage) r.direction
  have still := (congrArg Burst.isStalled (State.burst_of_traffic same p)).trans was
  unfold State.lookupPage
  dsimp only
  split
  · next kind fails =>
    exact (h.of_traffic same).decideFault still r (lookupFaultRecord_lawful fails) rfl
  · exact (h.of_traffic same).passPage still ((State.binding_of_traffic same p).trans bound) r walk _

/-! ## Answers to a port's transactions (R106, R107) -/

theorem State.FaultsLawful.answerSegment (h : s.FaultsLawful) {segs : Segments}
    (moving : s.ports[p].burst = .moving r segs) (which : PageIndex) (answer : MemoryAnswer) :
    (s.answerSegment p r segs which answer).FaultsLawful := by
  have was : s.ports[p].burst.isStalled = false := congrArg Burst.isStalled moving
  have freed {t : State} (ht : t.FaultsLawful) : t.freeMemory.FaultsLawful := ht.of_same rfl rfl
  cases answer with
  | error =>
    have bound := h.bindings p (congrArg Burst.needsBinding moving)
    exact ((freed h).decideFault was r (segmentRecord_lawful bound rfl) rfl).grant
  | ok words =>
    have same := s.receiveWords_traffic p (bufferPosition segs which) words
    have received := h.of_traffic same
    have still := (congrArg Burst.isStalled (State.burst_of_traffic same p)).trans was
    have finished : ((s.receiveWords p (bufferPosition segs which) words).finishBurst p
        r).FaultsLawful := ((freed received).answer still _).settle.grant
    unfold State.answerSegment
    dsimp only
    split
    · exact received.of_same rfl rfl
    · exact finished
    · exact finished

/-! ## The transfer engine (chapter 8) -/

theorem State.FaultsLawful.setEngineState (h : s.FaultsLawful) (e : EngineState) :
    (s.setEngineState e).FaultsLawful :=
  h.of_same rfl rfl

theorem State.FaultsLawful.freeMemory (h : s.FaultsLawful) : s.freeMemory.FaultsLawful :=
  h.of_same rfl rfl

theorem State.FaultsLawful.requestChunk (h : s.FaultsLawful) (t : Transfer) (w : Work) :
    (s.requestChunk t w).FaultsLawful :=
  (h.setEngineState _).grant

theorem State.FaultsLawful.endTransfer (h : s.FaultsLawful) (result : OutcomeState) :
    (s.endTransfer result).FaultsLawful :=
  h.of_same (s.endTransfer_ports result) (s.endTransfer_faults result)

theorem State.FaultsLawful.endWithError (h : s.FaultsLawful) (start : Word) (marksLost : Nat) :
    (s.endWithError start marksLost).FaultsLawful :=
  h.of_same (s.endWithError_ports start marksLost) (s.endWithError_faults start marksLost)

theorem State.FaultsLawful.answerLoad (h : s.FaultsLawful) (t : Transfer) (w : Work)
    (tr : Transaction) (answer : MemoryAnswer) : (s.answerLoad t w tr answer).FaultsLawful := by
  cases answer with
  | ok words => exact (h.freeMemory.setEngineState _).grant
  | error => exact (h.freeMemory.endWithError tr.start 0).grant

theorem State.FaultsLawful.acceptDump (h : s.FaultsLawful) (t : Transfer) (w : Work) :
    (s.acceptDump t w).FaultsLawful := by
  have counted : (s.raiseDone w.chunk.length).FaultsLawful := h.of_same rfl rfl
  unfold State.acceptDump
  dsimp only
  split
  · exact counted.endTransfer .complete
  · split
    · exact counted.endTransfer .aborted
    · exact counted.setEngineState _

theorem State.FaultsLawful.answerDump (h : s.FaultsLawful) (t : Transfer) (w : Work) (clear : Bool)
    (tr : Transaction) (answer : MemoryAnswer) :
    (s.answerDump t w clear tr answer).FaultsLawful := by
  cases answer with
  | ok words => exact (h.freeMemory.acceptDump t w).grant
  | error => exact (h.freeMemory.endWithError tr.start _).grant

theorem State.FaultsLawful.writeRunEntry (h : s.FaultsLawful) (t : Transfer) (fields : Fields) :
    (s.writeRunEntry t fields).FaultsLawful := by
  have counted : (s.raiseDone 1).FaultsLawful := h.of_same rfl rfl
  exact counted.of_traffic (s.writeRunEntry_traffic t fields)

theorem State.FaultsLawful.continueLoad (h : s.FaultsLawful) (t : Transfer) (w : Work)
    (rest : List ChunkImage) : (s.continueLoad t w rest).FaultsLawful := by
  unfold State.continueLoad
  split
  · exact h.endTransfer .complete
  · split
    · exact h.requestChunk t _
    · exact h.setEngineState _

theorem State.FaultsLawful.readForDump (h : s.FaultsLawful) (t : Transfer) (w : Work)
    (clear : Bool) : (s.readForDump t w clear).FaultsLawful := by
  have read := h.of_traffic (s.dumpAccess_traffic clear
    (s.runIndex t (s.engine.outcome.done + w.chunk.length)))
  unfold State.readForDump
  dsimp only
  split
  · exact read.setEngineState _
  · exact read.requestChunk t _

theorem State.FaultsLawful.abortDump (h : s.FaultsLawful) (t : Transfer) (w : Work) :
    (s.abortDump t w).FaultsLawful := by
  unfold State.abortDump
  split
  · exact h.setEngineState _
  · exact h.setEngineState _
  all_goals
    split
    · exact h.endTransfer .aborted
    · exact h.requestChunk t _

theorem State.FaultsLawful.abort (h : s.FaultsLawful) : s.abort.FaultsLawful := by
  unfold State.abort
  split
  · exact h
  · exact h.endTransfer .aborted
  · split
    · refine State.FaultsLawful.endTransfer ?_ .aborted
      split
      · exact h.of_same rfl rfl
      · exact h
    · exact h.endTransfer .aborted
    · exact h.abortDump _ _

/-! ## Resets (R125) -/

/-- An empty queue with every port IDLE obeys the laws: what a reset leaves. -/
theorem State.FaultsLawful.of_reset (empty : u.faults = ⟨[], [], 0#16⟩)
    (idle : ∀ q : PortId, u.ports[q].burst = .idle) : u.FaultsLawful := by
  constructor
  case depth => simp [empty]
  case numbered => rw [empty]; exact fun _ bound => absurd bound (Nat.not_lt_zero _)
  case stalledOnce => simp [empty]
  case stalledPorts => intro q; rw [empty, idle q]; exact ⟨nofun, nofun⟩
  case stalledFull => simp [empty]
  case queued => simp [empty]
  case waiting => simp [empty]
  case bindings => intro q; rw [idle q]; exact nofun

theorem State.softReset_burst (s : State) (q : PortId) : s.softReset.ports[q].burst = .idle :=
  congrArg Port.burst (Vector.getElem_ofFn (f := fun p : PortId => s.ports[p].reset) q.isLt)

theorem State.pinReset_burst (s : State) (q : PortId) : s.pinReset.ports[q].burst = .idle :=
  congrArg Port.burst (Vector.getElem_ofFn (f := fun p : PortId => s.ports[p].reset) q.isLt)

theorem powerOn_burst (s : State) (q : PortId) :
    (Vector.ofFn fun p : PortId => s.ports[p].powerOn)[q].burst = .idle :=
  congrArg Port.burst (Vector.getElem_ofFn (f := fun p : PortId => s.ports[p].powerOn) q.isLt)

/-! ## Every performance, every command -/

theorem State.FaultsLawful.performBindPort (h : s.FaultsLawful) (params : ParamWords) :
    (performBindPort params s).state.FaultsLawful := by
  rcases performBindPort_cases s params with eq | ⟨p, c, _, idle, _, eq⟩ <;> rw [eq]
  · exact h
  · have bound : (s.updatePort p fun port => { port with binding := some c }).FaultsLawful :=
      h.updatePort (congrArg Burst.isStalled idle) (congrArg Burst.isStalled idle) fun _ => rfl
    exact bound.of_same rfl rfl

theorem State.FaultsLawful.performReleasePort (h : s.FaultsLawful) (params : ParamWords) :
    (performReleasePort params s).state.FaultsLawful := by
  rcases performReleasePort_cases s params with eq | ⟨p, c, _, idle, eq⟩ <;> rw [eq]
  · exact h
  · have released : (s.updatePort p fun port =>
        { port with binding := none, lookaside := [] }).FaultsLawful :=
      h.updatePort (congrArg Burst.isStalled idle) (congrArg Burst.isStalled idle) fun needs =>
        nomatch (congrArg Burst.needsBinding idle).symm.trans needs
    exact released.of_same rfl rfl

theorem State.FaultsLawful.performAdmitPort (h : s.FaultsLawful) (params : ParamWords) :
    (performAdmitPort params s).state.FaultsLawful :=
  withPort_keeps s h fun p => (h.of_traffic (s.setGate_traffic p .admitted)).tryTake p

theorem State.FaultsLawful.performResumeHeld (h : s.FaultsLawful) (params : ParamWords) :
    (performResumeHeld params s).state.FaultsLawful := by
  refine withPort_keeps s h fun p => ?_
  split
  · next held =>
    exact (h.setBurst (congrArg Burst.isStalled held) rfl
      (h.bindings p (congrArg Burst.needsBinding held))).grant
  all_goals exact h

theorem State.FaultsLawful.performCancelHeld (h : s.FaultsLawful) (params : ParamWords) :
    (performCancelHeld params s).state.FaultsLawful := by
  refine withPort_keeps s h fun p => ?_
  split
  · next held =>
    exact h.decideFault (congrArg Burst.isStalled held) _
      (segmentRecord_lawful (h.bindings p (congrArg Burst.needsBinding held)) rfl) rfl
  all_goals exact h

theorem State.FaultsLawful.performStart (h : s.FaultsLawful) (context firstPage count : Word)
    (fence : Option Bool) (job : Option TransferJob) :
    (performStart context firstPage count fence job s).state.FaultsLawful := by
  rcases performStart_cases s context firstPage count fence job with
    eq | ⟨t, _, _, _, _, _, _, _, eq⟩ <;> rw [eq]
  · exact h
  · exact h.of_same (s.startTransfer_ports t) (s.startTransfer_faults t)

theorem State.FaultsLawful.performAbortTransfer (h : s.FaultsLawful) (params : ParamWords) :
    (performAbortTransfer params s).state.FaultsLawful := by
  unfold Machine.performAbortTransfer
  split
  · exact h
  · exact h.abort

theorem State.FaultsLawful.performQuiesce (h : s.FaultsLawful) (params : ParamWords) :
    (performQuiesce params s).state.FaultsLawful := by
  unfold Machine.performQuiesce
  split
  · exact h.of_same (State.reachQuiet_ports _) (State.reachQuiet_faults _)
  · exact h

theorem State.FaultsLawful.performWake (h : s.FaultsLawful) (params : ParamWords) :
    (performWake params s).state.FaultsLawful := by
  unfold Machine.performWake
  split
  · exact h
  · have running : (s.setMode .running).FaultsLawful := h.of_same rfl rfl
    simpa only [performedOk] using running.foldTake allPorts

theorem State.FaultsLawful.performSetFrameLimit (h : s.FaultsLawful) (params : ParamWords) :
    (performSetFrameLimit params s).state.FaultsLawful := by
  unfold Machine.performSetFrameLimit
  repeat' split
  · exact h
  · exact h
  · exact h.of_same rfl rfl

theorem State.FaultsLawful.performance (h : s.FaultsLawful) :
    ∀ e ∈ hostPerformances, ∀ params, (e.2 params s).state.FaultsLawful := by
  simp only [hostPerformances, List.forall_mem_cons]
  exact ⟨fun p => h.of_traffic (performDefineContext_traffic s p),
    fun p => h.of_traffic (performDeleteContext_traffic s p),
    fun p => h.of_traffic (performReadContext_traffic s p),
    fun p => h.of_traffic (performEntryWrite_traffic s .good p),
    fun p => h.of_traffic (performEntryWrite_traffic s .bad p),
    fun p => h.of_traffic (performProbe_traffic s p), h.performBindPort, h.performReleasePort,
    fun p => h.of_traffic (performSuspendPort_traffic s p), h.performAdmitPort,
    fun p => h.of_traffic (performReadPort_traffic s p),
    fun p => h.of_traffic (performFlushPort_traffic s p), h.performResumeHeld,
    h.performCancelHeld, h.performPopFault, fun _ => h.performStart _ _ _ _ _,
    fun _ => h.performStart _ _ _ _ _, fun _ => h.performStart _ _ _ _ _, h.performAbortTransfer,
    fun p => h.of_traffic (performSetWindow_traffic s p),
    fun p => h.of_traffic (performReadWindow_traffic s p), h.performQuiesce, h.performWake,
    h.performSetFrameLimit, fun _ => .of_reset rfl s.softReset_burst, List.forall_mem_nil _⟩

/-- Every command keeps the laws of the fault queue. -/
theorem State.FaultsLawful.exec {i : Instr} (h : s.FaultsLawful) (e : exec i s = .next u) :
    u.FaultsLawful := by
  refine exec_next_cases (P := State.FaultsLawful) e h ?host ?unknown ?overrun ?param ?acknowledge
    ?enable ?powerOn ?pin ?release ?present ?withdraw ?opening ?lookup ?resume ?segment ?loadChunk
    ?dumpChunk ?late ?discard ?loadBegin ?loadWrite ?fillWrite ?dumpRead ?complete
  case host =>
    intro code perform event mem
    exact s.hostCommand_keeps code perform event h
      (fun v busy hv => hv.of_traffic (v.takeCommand_traffic busy))
      fun v hv _ => (hv.performance _ mem _).of_same rfl rfl
  case unknown => exact fun code => h.of_traffic (s.takeCommand_traffic _)
  case powerOn => exact .of_reset rfl (powerOn_burst s)
  case pin => exact fun _ => .of_reset rfl s.pinReset_burst
  case present => exact fun p r _ _ => (h.of_traffic (s.setWaiting_traffic p _)).tryTake p
  case withdraw => exact fun p => h.of_traffic (s.setWaiting_traffic p none)
  case opening => exact fun p r opening => h.openBurst (congrArg Burst.isStalled opening) r
  case lookup =>
    exact fun p r walk c walking bound =>
      h.lookupPage (congrArg Burst.isStalled walking) bound r walk
  case resume =>
    exact fun p r c fenced bound _ => h.splitPages (congrArg Burst.isStalled fenced) bound r
  case segment =>
    exact fun p _ r segs which answer _ _ moving _ _ => h.answerSegment moving which answer
  case loadChunk => exact fun tr t w _ answer _ _ _ _ _ _ _ => h.answerLoad t w tr answer
  case dumpChunk => exact fun tr t w _ clear answer _ _ _ _ _ _ => h.answerDump t w clear tr answer
  case late => exact fun _ _ => State.FaultsLawful.grant (h.of_same rfl rfl)
  case discard => exact fun _ => h.freeMemory.grant
  case loadBegin => exact fun t w _ _ _ _ => h.requestChunk t w
  case loadWrite =>
    exact fun t w _ image rest _ _ _ _ => (h.writeRunEntry t _).continueLoad t w rest
  case fillWrite =>
    intro t w value _ _
    have written := h.writeRunEntry t value
    split
    · exact written.endTransfer .complete
    · exact written
  case dumpRead => exact fun t w _ clear _ _ _ => h.readForDump t w clear
  all_goals
    intros
    exact h.of_same rfl rfl

end Sys2Proof.Machine
end

section
/-! PROOFS. The laws of the memory port (R98 to R104): the laws less the grant, which hold between the
acts of one event; the changes that leave the memory port to its holder; and what frees it or grants
it. -/

namespace Sys2Proof.Machine

open Sys2Proof

variable {s t u : State} {p : PortId}

/-! ## The conditions in the laws -/

theorem Burst.isMoving_iff (b : Burst) : b.isMoving = true ↔ ∃ r segs, b = .moving r segs := by
  cases b <;> simp [Burst.isMoving]

theorem Burst.isMoving_eq_false_iff (b : Burst) :
    b.isMoving = false ↔ ∀ r segs, b ≠ .moving r segs := by
  cases b <;> simp [Burst.isMoving]

theorem State.servesMoving_iff :
    s.servesMoving p ↔ ∀ r segs, s.ports[p].burst = .moving r segs →
      ∃ tr ∈ s.memory.transaction, tr.serves r segs := by
  unfold State.servesMoving
  cases s.ports[p].burst <;> simp

theorem EngineState.fillMakesNoRequest_iff {e : EngineState} :
    e.fillMakesNoRequest ↔ ∀ t w, e = .running t w → t.job.kind = .fill → w.stage = none := by
  cases e <;> simp [EngineState.fillMakesNoRequest]

theorem EngineState.fillMakesNoRequest_running {t : Transfer} {w : Work}
    (other : t.job.kind ≠ .fill) : EngineState.fillMakesNoRequest (.running t w) :=
  fun fill => absurd fill other

/-- A transfer that enters RUNNING has no chunk in flight and none ready, and a FILL has no stage. -/
theorem TransferJob.initialWork_cases (job : TransferJob) :
    job.initialWork.stage = none ∨ job.initialWork.stage = some .reading ∧ job.kind ≠ .fill := by
  cases job with
  | load a => exact Or.inl rfl
  | dump a clear => exact Or.inr ⟨rfl, nofun⟩
  | fill value => exact Or.inl rfl

/-- Only a FILL has no chunk transaction (R103). -/
theorem chunkTransaction_isSome {t : Transfer} (w : Work) (done : Nat)
    (other : t.job.kind ≠ .fill) : (chunkTransaction t w done).isSome = true := by
  unfold chunkTransaction
  cases job : t.job with
  | load a => rfl
  | dump a clear => rfl
  | fill value => exact absurd (congrArg TransferJob.kind job) other

/-! ## The laws less the grant -/

/-- The laws of the memory port that hold at every moment of an event: whoever is at work on it is
HOLDER, with a transaction of its own. Requests may wait for the grant that ends the event. -/
structure State.Holding (s : State) : Prop where
  ports : ∀ p : PortId,
    s.ports[p].burst.isMoving = true ↔ s.memory.holder = .requester (.port p)
  engine : (s.engine.state.isInFlight || s.engine.late) = true ↔
    s.memory.holder = .requester .engine
  oneChunk : ¬ (s.engine.state.isInFlight = true ∧ s.engine.late = true)
  outstanding : s.memory.transaction.isSome = true ↔ s.memory.holder ≠ .free
  serves : ∀ p : PortId, s.servesMoving p
  fills : s.engine.state.fillMakesNoRequest

/-- The laws of the memory port without those of the fault queue: no requester waits for a FREE port. -/
structure State.Arbitrated (s : State) : Prop extends s.Holding where
  granted : s.memory.holder = .free → ∀ r, s.requests r = false

theorem State.memoryLawful_iff : s.MemoryLawful ↔ s.FaultsLawful ∧ s.Arbitrated := by
  constructor
  · intro h
    refine ⟨h.faults, ⟨h.ports, h.engine, h.oneChunk, h.outstanding, h.serves, h.fills⟩,
      fun free r => ?_⟩
    obtain ⟨ports, engine⟩ := h.granted free
    cases r with
    | port p => exact ports p
    | engine => exact engine
  · intro ⟨faults, h⟩
    exact ⟨faults, h.ports, h.engine, h.oneChunk, h.outstanding,
      fun free => ⟨fun p => h.granted free (.port p), h.granted free .engine⟩, h.serves, h.fills⟩

/-- While the memory port is not held by the engine, its chunk is not IN FLIGHT and not LATE. -/
theorem State.Holding.engine_off (h : s.Holding) (other : s.memory.holder ≠ .requester .engine) :
    s.engine.state.isInFlight = false ∧ s.engine.late = false := by
  have off : ¬ (s.engine.state.isInFlight || s.engine.late) = true := fun on =>
    other (h.engine.mp on)
  simpa using off

theorem State.Holding.port_off (h : s.Holding) (other : s.memory.holder ≠ .requester (.port p)) :
    s.ports[p].burst.isMoving = false :=
  Bool.not_eq_true _ ▸ fun moving => other ((h.ports p).mp moving)

/-! ## Changes that leave the memory port to its holder -/

/-- The memory port is not touched, and neither is what is at work on it. -/
structure State.KeepsHolder (s u : State) : Prop where
  memory : u.memory = s.memory
  moving : ∀ (p : PortId) r segs,
    u.ports[p].burst = .moving r segs ↔ s.ports[p].burst = .moving r segs
  inFlight : u.engine.state.isInFlight = s.engine.state.isInFlight
  late : u.engine.late = s.engine.late
  fills : s.engine.state.fillMakesNoRequest → u.engine.state.fillMakesNoRequest

/-- No requester begins to request besides. -/
structure State.Quietens (s u : State) : Prop extends s.KeepsHolder u where
  requests : ∀ r, u.requests r = true → s.requests r = true

theorem State.Holding.of_keepsHolder (h : s.Holding) (keeps : s.KeepsHolder u) : u.Holding := by
  have moving (p : PortId) : u.ports[p].burst.isMoving = true ↔
      s.ports[p].burst.isMoving = true := by
    simp only [Burst.isMoving_iff, keeps.moving]
  constructor
  case ports => intro p; rw [moving p, keeps.memory]; exact h.ports p
  case engine => rw [keeps.inFlight, keeps.late, keeps.memory]; exact h.engine
  case oneChunk => rw [keeps.inFlight, keeps.late]; exact h.oneChunk
  case outstanding => rw [keeps.memory]; exact h.outstanding
  case serves =>
    refine fun p => State.servesMoving_iff.mpr fun r segs now => ?_
    rw [keeps.memory]
    exact State.servesMoving_iff.mp (h.serves p) r segs ((keeps.moving p r segs).mp now)
  case fills => exact keeps.fills h.fills

theorem State.Arbitrated.of_quietens (h : s.Arbitrated) (quiet : s.Quietens u) : u.Arbitrated := by
  refine ⟨h.toHolding.of_keepsHolder quiet.toKeepsHolder, fun free r => ?_⟩
  rw [quiet.memory] at free
  exact Bool.not_eq_true _ ▸ fun now =>
    Bool.false_ne_true ((h.granted free r).symm.trans (quiet.requests r now))

theorem State.KeepsHolder.trans (first : s.KeepsHolder t) (second : t.KeepsHolder u) :
    s.KeepsHolder u where
  memory := second.memory.trans first.memory
  moving := fun p r segs => (second.moving p r segs).trans (first.moving p r segs)
  inFlight := second.inFlight.trans first.inFlight
  late := second.late.trans first.late
  fills := fun before => second.fills (first.fills before)

theorem State.Quietens.trans (first : s.Quietens t) (second : t.Quietens u) : s.Quietens u :=
  ⟨first.toKeepsHolder.trans second.toKeepsHolder, fun r now =>
    first.requests r (second.requests r now)⟩

/-- A change outside the bursts, the memory port, ENGINE STATE and LATE TRANSACTION. -/
theorem State.Quietens.of_bursts (bursts : ∀ p : PortId, u.ports[p].burst = s.ports[p].burst)
    (memory : u.memory = s.memory) (state : u.engine.state = s.engine.state)
    (late : u.engine.late = s.engine.late) : s.Quietens u := by
  constructor
  case toKeepsHolder =>
    exact ⟨memory, fun p r segs => by rw [bursts p], by rw [state], late, fun h => by rwa [state]⟩
  case requests =>
    intro r
    cases r with
    | port p => simp only [State.requests, bursts p, imp_self]
    | engine => simp only [State.requests, state, imp_self]

theorem State.Quietens.of_same (ports : u.ports = s.ports) (memory : u.memory = s.memory)
    (engine : u.engine = s.engine) : s.Quietens u :=
  .of_bursts (fun p => by rw [ports]) memory (by rw [engine]) (by rw [engine])

theorem State.Quietens.refl (s : State) : s.Quietens s := .of_same rfl rfl rfl

theorem State.Quietens.of_traffic (same : u.traffic = s.traffic) : s.Quietens u :=
  .of_bursts (State.burst_of_traffic same) (congrArg Traffic.memory same)
    (congrArg Traffic.engine same) (congrArg Traffic.late same)

/-- A change made before, outside the ports, the memory port, ENGINE STATE and LATE TRANSACTION. -/
theorem State.Quietens.after_same (later : t.Quietens u) (ports : t.ports = s.ports)
    (memory : t.memory = s.memory) (state : t.engine.state = s.engine.state)
    (late : t.engine.late = s.engine.late) : s.Quietens u :=
  (State.Quietens.of_bursts (fun p => by rw [ports]) memory state late).trans later

/-! ## A port that is not MOVING -/

theorem State.updatePort_keepsHolder {f : Port → Port} (was : s.ports[p].burst.isMoving = false)
    (now : (f s.ports[p]).burst.isMoving = false) : s.KeepsHolder (s.updatePort p f) := by
  refine ⟨rfl, fun q r segs => ?_, rfl, rfl, id⟩
  rw [State.updatePort_get]
  split
  · next same =>
    subst same
    exact iff_of_false ((Burst.isMoving_eq_false_iff _).mp now r segs)
      ((Burst.isMoving_eq_false_iff _).mp was r segs)
  · rfl

theorem State.updatePort_quietens {f : Port → Port} (was : s.ports[p].burst.isMoving = false)
    (now : (f s.ports[p]).burst.isMoving = false)
    (calm : (f s.ports[p]).burst.isQueued = false) : s.Quietens (s.updatePort p f) := by
  refine ⟨State.updatePort_keepsHolder was now, fun r => ?_⟩
  cases r with
  | engine => exact id
  | port q =>
    unfold State.requests
    dsimp only
    rw [State.updatePort_get]
    split
    · next same => subst same; exact fun queued => nomatch calm.symm.trans queued
    · exact id

theorem State.tryTake_quietens (s : State) (p : PortId) : s.Quietens (s.tryTake p) := by
  rcases s.tryTake_cases p with ⟨eq, _⟩ | ⟨r, _, ready, eq⟩ <;> rw [eq]
  · exact .refl s
  · obtain ⟨_, idle, _, _⟩ := (s.ready_iff p).mp ready
    exact State.updatePort_quietens (congrArg Burst.isMoving idle) rfl rfl

theorem foldTake_quietens (s : State) (ports : List PortId) :
    s.Quietens (ports.foldl (fun t p => t.tryTake p) s) := by
  induction ports generalizing s with
  | nil => exact .refl s
  | cons p rest ih => exact (s.tryTake_quietens p).trans (ih _)

theorem State.answer_quietens (was : s.ports[p].burst.isMoving = false) (a : LinkAnswer) :
    s.Quietens (s.answer p a) :=
  (State.updatePort_quietens (f := fun port => port.answer a) was rfl rfl).trans
    (State.tryTake_quietens _ p)

/-- ENGINE STATE may change while no chunk is in flight before or after, as long as it does not begin to
request. -/
theorem State.setEngineState_quietens {e : EngineState}
    (inFlight : e.isInFlight = s.engine.state.isInFlight)
    (requesting : e.isRequesting = true → s.engine.state.isRequesting = true)
    (fills : s.engine.state.fillMakesNoRequest → e.fillMakesNoRequest) :
    s.Quietens (s.setEngineState e) := by
  refine ⟨⟨rfl, fun _ _ _ => Iff.rfl, inFlight, rfl, fills⟩, fun r => ?_⟩
  cases r with
  | port p => exact id
  | engine => exact requesting

/-- A transfer's initial work neither holds nor requests the memory port. -/
theorem State.initialWork_quietens (t : Transfer)
    (inFlight : s.engine.state.isInFlight = false) :
    s.Quietens (s.setEngineState (.running t t.job.initialWork)) := by
  have stage := t.job.initialWork_cases
  refine State.setEngineState_quietens ?_ ?_ fun _ => ?_
  · rw [inFlight]
    rcases stage with none | ⟨reading, _⟩ <;> simp [EngineState.isInFlight, *]
  · rcases stage with none | ⟨reading, _⟩ <;> simp [EngineState.isRequesting, *]
  · intro fill
    exact stage.resolve_right fun ⟨_, other⟩ => other fill

theorem State.endDrain_quietens (s : State) : s.Quietens s.endDrain := by
  rcases s.endDrain_cases with ⟨eq, _⟩ | ⟨t, draining, _, eq⟩ <;> rw [eq]
  · exact .refl s
  · exact State.initialWork_quietens t (congrArg EngineState.isInFlight draining)

theorem State.settle_quietens (s : State) : s.Quietens s.settle :=
  s.endDrain_quietens.trans (.of_same (State.reachQuiet_ports _) (State.reachQuiet_memory _)
    (State.reachQuiet_engine _))

theorem State.appendAndAnswer_quietens (was : s.ports[p].burst.isMoving = false)
    (record : FaultRecord) : s.Quietens (s.appendAndAnswer p record) :=
  State.Quietens.after_same
    (State.answer_quietens (s := { s with faults := s.faults.append record }) was _) rfl rfl rfl rfl

theorem State.stall_quietens (was : s.ports[p].burst.isMoving = false) (r : CurrentRequest)
    (record : FaultRecord) : s.Quietens (s.stall p r record) :=
  State.Quietens.after_same
    (State.updatePort_quietens (f := fun port => { port with burst := .stalled r }) was rfl rfl)
    rfl rfl rfl rfl

theorem State.decideFault_quietens (was : s.ports[p].burst.isMoving = false) (r : CurrentRequest)
    (record : FaultRecord) : s.Quietens (s.decideFault p r record) := by
  rcases s.decideFault_cases p r record with ⟨_, eq⟩ | ⟨_, eq⟩ <;> rw [eq]
  · exact (State.appendAndAnswer_quietens was record).trans (State.settle_quietens _)
  · exact (State.stall_quietens was r record).trans (State.settle_quietens _)

theorem Burst.not_moving_of_stalled {b : Burst} (stalled : b.isStalled = true) :
    b.isMoving = false := by
  cases b <;> simp_all [Burst.isStalled, Burst.isMoving]

/-- A port that is handed off is STALLED, not MOVING. -/
theorem State.handOff_quietens
    (stalled : ∀ p ∈ s.faults.stalled.map Prod.fst, s.ports[p].burst.isStalled = true) :
    s.Quietens s.handOff := by
  rcases s.handOff_cases with ⟨eq, _⟩ | ⟨p, record, rest, head, eq⟩ <;> rw [eq]
  · exact .refl s
  · have was := stalled p (by rw [head]; exact List.mem_cons_self)
    have appended := State.appendAndAnswer_quietens
      (s := { s with faults := { s.faults with stalled := rest } })
      (Burst.not_moving_of_stalled was) record
    exact State.Quietens.trans (.after_same appended rfl rfl rfl rfl) (State.settle_quietens _)

/-! ## The start and the end of a transfer (R130, R141) -/

theorem EngineState.transfer_eq_none_iff (e : EngineState) : e.transfer = none ↔ e = .idle := by
  cases e <;> simp [EngineState.transfer]

@[simp] theorem State.endTransfer_engine_state (s : State) (result : OutcomeState) :
    (s.endTransfer result).engine.state = .idle := by
  cases progress : s.engine.state.transfer with
  | none => simpa only [State.endTransfer, progress] using (EngineState.transfer_eq_none_iff _).mp progress
  | some t => simp [s.endTransfer_of result t progress]

@[simp] theorem State.endTransfer_engine_late (s : State) (result : OutcomeState) :
    (s.endTransfer result).engine.late = s.engine.late := by
  cases progress : s.engine.state.transfer with
  | none => simp only [State.endTransfer, progress]
  | some t => simp [s.endTransfer_of result t progress]

theorem State.endTransfer_quietens (inFlight : s.engine.state.isInFlight = false)
    (result : OutcomeState) : s.Quietens (s.endTransfer result) := by
  refine ⟨⟨by simp, by simp, by rw [inFlight, State.endTransfer_engine_state]; rfl, by simp,
    fun _ => by rw [State.endTransfer_engine_state]; trivial⟩, fun r => ?_⟩
  cases r with
  | port p => simp [State.requests]
  | engine => simp [State.requests, EngineState.isRequesting]

theorem State.startTransfer_quietens (idle : s.engine.state = .idle) (t : Transfer) :
    s.Quietens (s.startTransfer t) := by
  have off : s.engine.state.isInFlight = false := congrArg EngineState.isInFlight idle
  unfold State.startTransfer
  dsimp only
  split
  · refine State.Quietens.trans ?_ (State.endDrain_quietens _)
    exact State.Quietens.after_same
      (State.setEngineState_quietens off.symm nofun fun _ => trivial) rfl rfl rfl rfl
  · exact State.Quietens.after_same (State.initialWork_quietens t off) rfl rfl rfl rfl

/-! ## The memory port freed -/

/-- With nobody at work on the memory port the laws hold, FREE or DISCARDING. -/
theorem State.Holding.of_released (released : ∀ r, u.memory.holder ≠ .requester r)
    (outstanding : u.memory.transaction.isSome = true ↔ u.memory.holder ≠ .free)
    (still : ∀ q : PortId, u.ports[q].burst.isMoving = false)
    (inFlight : u.engine.state.isInFlight = false) (late : u.engine.late = false)
    (fills : u.engine.state.fillMakesNoRequest) : u.Holding where
  ports := fun q => iff_of_false (fun moving => nomatch (still q).symm.trans moving) (released _)
  engine := iff_of_false (by simp [inFlight, late]) (released _)
  oneChunk := fun ⟨on, _⟩ => nomatch inFlight.symm.trans on
  outstanding := outstanding
  serves := fun q => State.servesMoving_iff.mpr fun r segs moving =>
    absurd moving ((Burst.isMoving_eq_false_iff _).mp (still q) r segs)
  fills := fills

theorem State.Holding.of_free (memory : u.memory = s.freeMemory.memory)
    (still : ∀ q : PortId, u.ports[q].burst.isMoving = false)
    (inFlight : u.engine.state.isInFlight = false) (late : u.engine.late = false)
    (fills : u.engine.state.fillMakesNoRequest) : u.Holding := by
  refine .of_released ?_ ?_ still inFlight late fills <;> rw [memory]
  · exact fun r => nofun
  · simp

/-- The port that holds the memory port gives it up with its burst. -/
theorem State.Holding.freePort (h : s.Holding)
    (holder : s.memory.holder = .requester (.port p)) :
    (s.freeMemory.setBurst p .idle).Holding := by
  obtain ⟨inFlight, late⟩ := h.engine_off (by rw [holder]; simp)
  refine .of_free (s := s) rfl (fun q => ?_) inFlight late h.fills
  rw [State.setBurst_get]
  split
  · rfl
  · next other => exact h.port_off (by rw [holder]; simpa using other)

/-- The memory port is freed while no port holds it, and the engine is left with no chunk in flight. -/
theorem State.Holding.freed (h : s.Holding) (noPort : ∀ q, s.memory.holder ≠ .requester (.port q))
    (memory : u.memory = s.freeMemory.memory) (ports : u.ports = s.ports)
    (inFlight : u.engine.state.isInFlight = false) (late : u.engine.late = false)
    (fills : u.engine.state.fillMakesNoRequest) : u.Holding :=
  .of_free memory (fun q => by rw [ports]; exact h.port_off (noPort q)) inFlight late fills

/-! ## The grant (R100, R102, R103) -/

/-- A FREE memory port granted to a port in QUEUED: it is HOLDER, with segment 1 of its burst. -/
theorem State.Holding.grantTo_port (h : s.Holding) (free : s.memory.holder = .free)
    {r : CurrentRequest} {segs : Segments} (queued : s.ports[p].burst = .queued r segs) :
    (s.grantTo (.port p)).Holding := by
  obtain ⟨inFlight, late⟩ := h.engine_off (by rw [free]; simp)
  have burst (q : PortId) : (s.grantTo (.port p)).ports[q].burst =
      if p = q then .moving r segs else s.ports[q].burst := by
    rw [s.grantTo_port p r segs queued, State.setBurst_get]
    exact apply_ite Port.burst _ _ _
  have off (q : PortId) : s.ports[q].burst.isMoving = false := h.port_off (by rw [free]; simp)
  rw [s.grantTo_port p r segs queued] at burst ⊢
  constructor
  case ports =>
    intro q
    rw [burst q]
    split
    · next same => subst same; exact iff_of_true rfl rfl
    · next other =>
      rw [off q]
      exact iff_of_false nofun (by simpa [MemoryPort.issue] using other)
  case engine => exact iff_of_false (by simp [inFlight, late]) (by simp [MemoryPort.issue])
  case oneChunk => exact fun ⟨on, _⟩ => nomatch inFlight.symm.trans on
  case outstanding => exact iff_of_true rfl nofun
  case serves =>
    refine fun q => State.servesMoving_iff.mpr fun r' segs' moving => ?_
    rw [burst q] at moving
    split at moving
    · cases moving
      exact ⟨_, rfl, rfl, Or.inl ⟨rfl, rfl, rfl⟩⟩
    · exact absurd moving ((Burst.isMoving_eq_false_iff _).mp (off q) r' segs')
  case fills => exact h.fills

/-- A FREE memory port granted to the engine: its chunk is IN FLIGHT; a FILL has none. -/
theorem State.Holding.grantTo_engine (h : s.Holding) (free : s.memory.holder = .free)
    {t : Transfer} {w : Work} (running : s.engine.state = .running t w)
    (requesting : w.stage = some .requesting) : (s.grantTo .engine).Holding := by
  obtain ⟨_, late⟩ := h.engine_off (by rw [free]; simp)
  have off (q : PortId) : s.ports[q].burst.isMoving = false := h.port_off (by rw [free]; simp)
  have other : t.job.kind ≠ .fill := fun fill =>
    nomatch requesting.symm.trans (EngineState.fillMakesNoRequest_iff.mp h.fills t w running fill)
  rw [s.grantTo_engine t w running]
  constructor
  case ports =>
    exact fun q => iff_of_false (fun moving => nomatch (off q).symm.trans moving)
      (by simp [MemoryPort.issue])
  case engine => exact iff_of_true (by simp [EngineState.isInFlight]) rfl
  case oneChunk => exact fun ⟨_, on⟩ => nomatch late.symm.trans on
  case outstanding => exact iff_of_true (chunkTransaction_isSome w _ other) nofun
  case serves =>
    exact fun q => State.servesMoving_iff.mpr fun r segs moving =>
      absurd moving ((Burst.isMoving_eq_false_iff _).mp (off q) r segs)
  case fills => exact EngineState.fillMakesNoRequest_running other

/-- After the grant no requester waits for a FREE memory port. -/
theorem State.Holding.grant (h : s.Holding) : s.grant.Arbitrated := by
  rcases s.grant_cases with ⟨eq, none⟩ | ⟨q, free, _, requests, eq⟩ <;> rw [eq]
  · exact ⟨h, none⟩
  · have asking := (s.requests_iff_asks q).mp requests
    refine ⟨?_, fun idle => nomatch (State.grantTo_holder asking).symm.trans idle⟩
    cases q with
    | port p =>
      obtain ⟨r, segs, queued⟩ := asking
      exact h.grantTo_port free queued
    | engine =>
      obtain ⟨t, w, running, requesting⟩ := asking
      exact h.grantTo_engine free running requesting

end Sys2Proof.Machine
end

section
/-! PROOFS. Bursts, transfers, commands and resets against the laws of the memory port, and that every
step keeps the laws (R98 to R104). -/

namespace Sys2Proof.Machine

open Sys2Proof

variable {s u : State} {p : PortId} {c : ContextId} {r : CurrentRequest}

theorem State.MemoryLawful.arbitrated (h : s.MemoryLawful) : s.Arbitrated :=
  (State.memoryLawful_iff.mp h).2

theorem State.MemoryLawful.of_quietens (h : s.MemoryLawful) (faults : u.FaultsLawful)
    (quiet : s.Quietens u) : u.MemoryLawful :=
  State.memoryLawful_iff.mpr ⟨faults, h.arbitrated.of_quietens quiet⟩

/-- What a request added to a state and the grant after it leave. -/
theorem State.KeepsHolder.grant (h : s.Holding) (keeps : s.KeepsHolder u) : u.grant.Arbitrated :=
  (h.of_keepsHolder keeps).grant

/-! ## Translation (chapter 4) and the watch compare (chapter 9) -/

theorem State.splitPages_quietens (was : s.ports[p].burst.isMoving = false) (c : ContextId)
    (r : CurrentRequest) : s.Quietens (s.splitPages p c r) := by
  unfold State.splitPages
  split
  · exact State.decideFault_quietens was r _
  · exact State.updatePort_quietens was rfl rfl

theorem State.openBurst_quietens (was : s.ports[p].burst.isMoving = false) (r : CurrentRequest) :
    s.Quietens (s.openBurst p r) := by
  unfold State.openBurst
  split
  · exact State.decideFault_quietens was r _
  · next c _ =>
    split
    · exact State.decideFault_quietens was r _
    · unfold State.fenceCheck
      split
      · exact State.Quietens.trans (State.updatePort_quietens was rfl rfl)
          (State.settle_quietens _)
      · exact State.splitPages_quietens was c r

/-- A burst that was not MOVING requests the memory port or is HELD after the watch compare. -/
theorem State.Arbitrated.watchCompare (h : s.Arbitrated)
    (was : s.ports[p].burst.isMoving = false) (r : CurrentRequest) (segs : Segments) :
    (s.watchCompare p r segs).Arbitrated := by
  unfold State.watchCompare
  split
  · have noted : s.Quietens ((s.noteMatches p r.direction segs).recordHits p r segs) :=
      .of_traffic (s.noteMatches_traffic p r.direction segs)
    refine (noted.toKeepsHolder.trans (State.updatePort_keepsHolder ?_ rfl)).grant h.toHolding
    rw [State.recordHits_ports, State.noteMatches_ports]
    exact was
  · have hits : s.Quietens (s.recordHits p r segs) := .of_same rfl rfl rfl
    exact h.of_quietens (hits.trans (State.updatePort_quietens was rfl rfl))

theorem State.Arbitrated.passPage (h : s.Arbitrated) (was : s.ports[p].burst.isMoving = false)
    (c : ContextId) (r : CurrentRequest) (walk : Walk) (result : PageResult) :
    (s.passPage p c r walk result).Arbitrated := by
  unfold State.passPage
  split
  · split
    · exact h.of_quietens (State.decideFault_quietens was r _)
    · exact h.of_quietens (State.updatePort_quietens was rfl rfl)
  · exact h.watchCompare was r _

theorem State.Arbitrated.lookupPage (h : s.Arbitrated) (was : s.ports[p].burst.isMoving = false)
    (c : ContextId) (r : CurrentRequest) (walk : Walk) :
    (s.lookupPage p c r walk).Arbitrated := by
  have same := s.lookup_traffic p (s.contexts[c].base + r.pageAt walk.currentPage)
    (r.pageAt walk.currentPage) r.direction
  have after := h.of_quietens (.of_traffic same)
  have still := (congrArg Burst.isMoving (State.burst_of_traffic same p)).trans was
  unfold State.lookupPage
  dsimp only
  split
  · exact after.of_quietens (State.decideFault_quietens still r _)
  · exact after.passPage still c r walk _

/-! ## Answers to a port's transactions (R102, R106) -/

/-- The last answer frees the memory port with the burst, and the next grant follows. -/
theorem State.Holding.finishBurst (h : s.Holding)
    (holder : s.memory.holder = .requester (.port p)) (r : CurrentRequest) :
    (s.finishBurst p r).Arbitrated := by
  rw [State.finishBurst, ← State.answer_setBurst _ p .idle]
  have idle : (s.freeMemory.setBurst p .idle).ports[p].burst.isMoving = false := by
    rw [State.setBurst_get, if_pos rfl]; rfl
  exact ((State.answer_quietens idle _).trans (State.settle_quietens _)).grant
    (h.freePort holder)

theorem State.Holding.memoryFault (h : s.Holding)
    (holder : s.memory.holder = .requester (.port p)) (r : CurrentRequest) (seg : Segment) :
    (s.memoryFault p r seg).Arbitrated := by
  rw [State.memoryFault, ← State.decideFault_setBurst _ p .idle]
  have idle : (s.freeMemory.setBurst p .idle).ports[p].burst.isMoving = false := by
    rw [State.setBurst_get, if_pos rfl]; rfl
  exact (State.decideFault_quietens idle r _).grant (h.freePort holder)

/-- Segment 2 takes the place of segment 1 in the burst that holds the memory port. -/
theorem State.Arbitrated.issueSecond (h : s.Arbitrated) {segs : Segments} {second : Segment}
    (holder : s.memory.holder = .requester (.port p)) (moving : s.ports[p].burst = .moving r segs)
    (two : segs.second = some second) : (s.issueSecond p r segs second).Arbitrated := by
  refine ⟨⟨h.ports, h.engine, h.oneChunk, iff_of_true rfl ?_, fun q => ?_, h.fills⟩, h.granted⟩
  · rw [State.issueSecond, holder]; exact nofun
  · refine State.servesMoving_iff.mpr fun r' segs' now => ?_
    have owner := holder.symm.trans ((h.ports q).mp ((Burst.isMoving_iff _).mpr ⟨r', segs', now⟩))
    obtain rfl : p = q := by simpa using owner
    cases moving.symm.trans now
    exact ⟨_, rfl, rfl, Or.inr ⟨rfl, second, two, rfl, rfl⟩⟩

theorem State.Arbitrated.answerSegment (h : s.Arbitrated) {segs : Segments}
    (holder : s.memory.holder = .requester (.port p)) (moving : s.ports[p].burst = .moving r segs)
    (which : PageIndex) (answer : MemoryAnswer) :
    (s.answerSegment p r segs which answer).Arbitrated := by
  cases answer with
  | error => exact h.memoryFault holder r _
  | ok words =>
    have same := s.receiveWords_traffic p (bufferPosition segs which) words
    have received := h.of_quietens (.of_traffic same)
    unfold State.answerSegment
    dsimp only
    split
    · next two =>
      exact received.issueSecond holder ((State.burst_of_traffic same p).trans moving) two
    · exact received.finishBurst holder r
    · exact received.finishBurst holder r

/-! ## The transfer engine (chapter 8) -/

section Running

variable {t : Transfer} {w : Work}

/-- A chunk that is not in flight may be asked for, of any transfer but a FILL. -/
theorem State.Holding.requestChunk (h : s.Holding) (off : s.engine.state.isInFlight = false)
    (other : t.job.kind ≠ .fill) (w : Work) : (s.requestChunk t w).Arbitrated := by
  refine State.KeepsHolder.grant h ⟨rfl, fun _ _ _ => Iff.rfl, ?_, rfl, fun _ => ?_⟩
  · rw [off]; simp [EngineState.isInFlight]
  · exact EngineState.fillMakesNoRequest_running other

theorem State.Arbitrated.endTransfer (h : s.Arbitrated) (off : s.engine.state.isInFlight = false)
    (result : OutcomeState) : (s.endTransfer result).Arbitrated :=
  h.of_quietens (State.endTransfer_quietens off result)

/-- A transfer whose chunk stands where the memory port is neither held nor requested. -/
theorem State.Arbitrated.setRunning (h : s.Arbitrated) (off : s.engine.state.isInFlight = false)
    (other : t.job.kind ≠ .fill) (landed : w.stage ≠ some .inFlight)
    (calm : w.stage ≠ some .requesting) : (s.setEngineState (.running t w)).Arbitrated := by
  refine h.of_quietens (State.setEngineState_quietens ?_ (fun now => ?_) fun _ => ?_)
  · rw [off]; simpa [EngineState.isInFlight] using landed
  · exact absurd (of_decide_eq_true now) calm
  · exact EngineState.fillMakesNoRequest_running other

theorem EngineState.isInFlight_running (landed : w.stage ≠ some .inFlight) {e : EngineState}
    (running : e = .running t w) : e.isInFlight = false := by
  rw [running]
  exact decide_eq_false landed

/-- The answer to the engine's chunk frees the memory port, with no chunk in flight and none late. -/
theorem State.Holding.freeEngine (h : s.Holding) (holder : s.memory.holder = .requester .engine)
    (memory : u.memory = s.freeMemory.memory) (ports : u.ports = s.ports)
    (inFlight : u.engine.state.isInFlight = false) (late : u.engine.late = false)
    (fills : u.engine.state.fillMakesNoRequest) : u.grant.Arbitrated :=
  (h.freed (fun q => by rw [holder]; simp) memory ports inFlight late fills).grant

/-- A transfer ended by the answer to its chunk leaves the engine IDLE (R135, R138, R139). -/
theorem State.Holding.endedByAnswer (h : s.Holding)
    (holder : s.memory.holder = .requester .engine) (memory : u.memory = s.freeMemory.memory)
    (ports : u.ports = s.ports) (late : u.engine.late = false) (result : OutcomeState) :
    (u.endTransfer result).grant.Arbitrated := by
  refine h.freeEngine holder (by simpa using memory) (by simpa using ports) ?_ (by simpa using late) ?_
  all_goals rw [State.endTransfer_engine_state]
  · rfl
  · trivial

theorem State.Holding.answerLoad (h : s.Holding) (holder : s.memory.holder = .requester .engine)
    (late : s.engine.late = false) (other : t.job.kind ≠ .fill) (w : Work) (tr : Transaction)
    (answer : MemoryAnswer) : (s.answerLoad t w tr answer).Arbitrated := by
  cases answer with
  | ok words =>
    exact h.freeEngine holder rfl rfl rfl late
      (EngineState.fillMakesNoRequest_running other)
  | error =>
    refine h.endedByAnswer holder ?_ ?_ ?_ .memoryError
    exacts [rfl, rfl, late]

theorem State.Holding.acceptDump (h : s.Holding) (holder : s.memory.holder = .requester .engine)
    (late : s.engine.late = false) (other : t.job.kind ≠ .fill) (w : Work) :
    (s.freeMemory.acceptDump t w).grant.Arbitrated := by
  unfold State.acceptDump
  dsimp only
  split
  · refine h.endedByAnswer holder ?_ ?_ ?_ .complete
    exacts [rfl, rfl, late]
  · split
    · refine h.endedByAnswer holder ?_ ?_ ?_ .aborted
      exacts [rfl, rfl, late]
    · exact h.freeEngine holder rfl rfl rfl late (EngineState.fillMakesNoRequest_running other)

theorem State.Holding.answerDump (h : s.Holding) (holder : s.memory.holder = .requester .engine)
    (late : s.engine.late = false) (other : t.job.kind ≠ .fill) (w : Work) (clear : Bool)
    (tr : Transaction) (answer : MemoryAnswer) :
    (s.answerDump t w clear tr answer).Arbitrated := by
  cases answer with
  | ok words => exact h.acceptDump holder late other w
  | error =>
    refine h.endedByAnswer holder ?_ ?_ ?_ .memoryError
    exacts [rfl, rfl, late]

theorem State.writeRunEntry_quietens (s : State) (t : Transfer) (fields : Fields) :
    s.Quietens (s.writeRunEntry t fields) := by
  have counted : s.Quietens (s.raiseDone 1) := .of_bursts (fun _ => rfl) rfl rfl rfl
  exact counted.trans (.of_traffic (s.writeRunEntry_traffic t fields))

theorem State.Arbitrated.continueLoad (h : s.Arbitrated) (off : s.engine.state.isInFlight = false)
    (other : t.job.kind ≠ .fill) (writing : w.stage = some .writing) (rest : List ChunkImage) :
    (s.continueLoad t w rest).Arbitrated := by
  unfold State.continueLoad
  split
  · exact h.endTransfer off .complete
  · split
    · exact h.requestChunk off other _
    · exact h.setRunning off other (by rw [writing]; nofun) (by rw [writing]; nofun)

theorem State.Arbitrated.readForDump (h : s.Arbitrated) (off : s.engine.state.isInFlight = false)
    (other : t.job.kind ≠ .fill) (reading : w.stage = some .reading) (clear : Bool) :
    (s.readForDump t w clear).Arbitrated := by
  have same := s.dumpAccess_traffic clear (s.runIndex t (s.engine.outcome.done + w.chunk.length))
  have read := h.of_quietens (.of_traffic same)
  have still := (congrArg (fun view => view.engine.isInFlight) same).trans off
  unfold State.readForDump
  dsimp only
  split
  · exact read.setRunning still other (by rw [reading]; nofun) (by rw [reading]; nofun)
  · exact read.requestChunk still other _

/-! ## ABORT TRANSFER (R142, R143, R144) -/

/-- The abort of a DUMP waits for a chunk asked for or in flight, and cuts it short otherwise. -/
theorem State.Arbitrated.abortDump (h : s.Arbitrated) (running : s.engine.state = .running t w)
    (other : t.job.kind ≠ .fill) : (s.abortDump t w).Arbitrated := by
  have waits : (s.setEngineState (.running t { w with abortPending := true })).Arbitrated := by
    refine h.of_quietens (State.setEngineState_quietens ?_ ?_ fun _ => ?_)
    · rw [running]; rfl
    · rw [running]; exact id
    · exact EngineState.fillMakesNoRequest_running other
  have cut (landed : w.stage ≠ some .inFlight) : (if w.chunk.isEmpty then s.endTransfer .aborted
      else s.requestChunk t { w with abortPending := true }).Arbitrated := by
    have off := EngineState.isInFlight_running landed running
    split
    · exact h.endTransfer off .aborted
    · exact h.requestChunk off other _
  unfold State.abortDump
  split
  · exact waits
  · exact waits
  all_goals
    next stage => exact cut (by rw [stage]; nofun)

/-- A LOAD's chunk in flight becomes the LATE TRANSACTION, still held by the engine. -/
theorem State.Arbitrated.abortLoadInFlight (h : s.Arbitrated)
    (inFlight : s.engine.state.isInFlight = true) :
    (s.holdLate.endTransfer .aborted).Arbitrated := by
  have holder := h.engine.mp (by rw [inFlight]; rfl)
  have state := State.endTransfer_engine_state s.holdLate .aborted
  have late : (s.holdLate.endTransfer .aborted).engine.late = true := by simp
  have memory : (s.holdLate.endTransfer .aborted).memory = s.memory := by simp
  have ports : (s.holdLate.endTransfer .aborted).ports = s.ports := by simp
  refine ⟨⟨?_, ?_, ?_, ?_, fun q => State.servesMoving_iff.mpr ?_, ?_⟩, ?_⟩
  · rw [ports, memory]; exact h.ports
  · rw [late, memory]; exact iff_of_true (Bool.or_true _) holder
  · rw [state]; exact fun ⟨on, _⟩ => nomatch on
  · rw [memory]; exact h.outstanding
  · rw [ports, memory]; exact State.servesMoving_iff.mp (h.serves q)
  · rw [state]; trivial
  · rw [memory, holder]; exact nofun

theorem State.Arbitrated.abort (h : s.Arbitrated) : s.abort.Arbitrated := by
  unfold State.abort
  split
  · exact h
  · next draining => exact h.endTransfer (congrArg EngineState.isInFlight draining) .aborted
  · next t w running =>
    split
    · split
      · next inFlight =>
        exact h.abortLoadInFlight (by rw [running]; exact decide_eq_true inFlight)
      · next landed => exact h.endTransfer (EngineState.isInFlight_running landed running) .aborted
    · next fill =>
      have none := EngineState.fillMakesNoRequest_iff.mp h.fills t w running (by rw [fill]; rfl)
      exact h.endTransfer (EngineState.isInFlight_running (by rw [none]; nofun) running) .aborted
    · next dump => exact h.abortDump running (by rw [dump]; nofun)

end Running

/-! ## Performances -/

theorem State.Arbitrated.performAbortTransfer (h : s.Arbitrated) (params : ParamWords) :
    (performAbortTransfer params s).state.Arbitrated := by
  unfold Machine.performAbortTransfer
  split
  · exact h
  · exact h.abort

theorem State.updateContext_quietens (s : State) (c : ContextId) (f : Context → Context) :
    s.Quietens (s.updateContext c f) :=
  .of_same rfl rfl rfl

theorem performBindPort_quietens (s : State) (params : ParamWords) :
    s.Quietens (performBindPort params s).state := by
  rcases performBindPort_cases s params with eq | ⟨p, c, _, idle, _, eq⟩ <;> rw [eq]
  · exact .refl s
  · refine State.Quietens.trans (State.updatePort_quietens ?_ ?_ ?_)
      (State.updateContext_quietens _ _ _) <;> rw [idle] <;> rfl

theorem performReleasePort_quietens (s : State) (params : ParamWords) :
    s.Quietens (performReleasePort params s).state := by
  rcases performReleasePort_cases s params with eq | ⟨p, c, _, idle, eq⟩ <;> rw [eq]
  · exact .refl s
  · refine State.Quietens.trans (State.updatePort_quietens ?_ ?_ ?_)
      (State.updateContext_quietens _ _ _) <;> rw [idle] <;> rfl

theorem performAdmitPort_quietens (s : State) (params : ParamWords) :
    s.Quietens (performAdmitPort params s).state :=
  withPort_keeps (P := fun t => s.Quietens t) s (.refl s) fun p =>
    (State.Quietens.of_traffic (s.setGate_traffic p .admitted)).trans (State.tryTake_quietens _ p)

theorem performCancelHeld_quietens (s : State) (params : ParamWords) :
    s.Quietens (performCancelHeld params s).state := by
  refine withPort_keeps (P := fun t => s.Quietens t) s (.refl s) fun p => ?_
  split
  · next held => exact State.decideFault_quietens (congrArg Burst.isMoving held) _ _
  all_goals exact .refl s

theorem State.Arbitrated.performResumeHeld (h : s.Arbitrated) (params : ParamWords) :
    (performResumeHeld params s).state.Arbitrated := by
  refine withPort_keeps s h fun p => ?_
  split
  · next held =>
    exact State.KeepsHolder.grant h.toHolding
      (State.updatePort_keepsHolder (congrArg Burst.isMoving held) rfl)
  all_goals exact h

theorem performPopFault_quietens (faults : s.FaultsLawful) (params : ParamWords) :
    s.Quietens (performPopFault params s).state := by
  unfold performPopFault
  split
  · exact .refl s
  · next head rest _ =>
    have popped : s.Quietens { s with faults := { s.faults with records := rest } } :=
      .of_same rfl rfl rfl
    exact popped.trans (State.handOff_quietens fun p mem => (faults.stalledPorts p).mp mem)

theorem performStart_quietens (s : State) (context firstPage count : Word) (fence : Option Bool)
    (job : Option TransferJob) :
    s.Quietens (performStart context firstPage count fence job s).state := by
  rcases performStart_cases s context firstPage count fence job with
    eq | ⟨t, idle, _, _, _, _, _, _, eq⟩ <;> rw [eq]
  · exact .refl s
  · exact State.startTransfer_quietens idle t

theorem performQuiesce_quietens (s : State) (params : ParamWords) :
    s.Quietens (performQuiesce params s).state := by
  unfold performQuiesce
  split
  · exact .of_same (State.reachQuiet_ports _) (State.reachQuiet_memory _)
      (State.reachQuiet_engine _)
  · exact .refl s

theorem performWake_quietens (s : State) (params : ParamWords) :
    s.Quietens (performWake params s).state := by
  unfold performWake
  split
  · exact .refl s
  · have running : s.Quietens (s.setMode .running) := .of_same rfl rfl rfl
    simpa only [performedOk] using running.trans (foldTake_quietens _ allPorts)

theorem performSetFrameLimit_quietens (s : State) (params : ParamWords) :
    s.Quietens (performSetFrameLimit params s).state := by
  unfold performSetFrameLimit
  repeat' split
  all_goals exact .of_same rfl rfl rfl

/-! ## Resets (R110) -/

/-- A reset leaves a transaction in flight to its answer, every burst IDLE and the engine at rest. -/
theorem State.Arbitrated.of_reset (idle : ∀ q : PortId, u.ports[q].burst = .idle)
    (engine : u.engine = Engine.initial) (released : ∀ r, u.memory.holder ≠ .requester r)
    (outstanding : u.memory.transaction.isSome = true ↔ u.memory.holder ≠ .free) :
    u.Arbitrated := by
  refine ⟨.of_released released outstanding (fun q => by rw [idle q]; rfl) ?_ ?_ ?_, fun _ r => ?_⟩
  · rw [engine]; rfl
  · rw [engine]; rfl
  · rw [engine]; trivial
  · cases r with
    | port p => exact congrArg Burst.isQueued (idle p)
    | engine => exact congrArg (fun e : Engine => e.state.isRequesting) engine

theorem MemoryPort.reset_released (m : MemoryPort) :
    (∀ r, m.reset.holder ≠ .requester r) ∧
      (m.reset.transaction.isSome = true ↔ m.reset.holder ≠ .free) := by
  unfold MemoryPort.reset
  cases m.transaction <;> simp

theorem State.softReset_arbitrated (s : State) : s.softReset.Arbitrated := by
  obtain ⟨released, outstanding⟩ := s.memory.reset_released
  exact .of_reset s.softReset_burst rfl released outstanding

theorem State.pinReset_arbitrated (s : State) : s.pinReset.Arbitrated := by
  obtain ⟨released, outstanding⟩ := s.memory.reset_released
  exact .of_reset s.pinReset_burst rfl released outstanding

/-! ## Every performance, every command, every step -/

theorem State.MemoryLawful.performance (h : s.MemoryLawful) :
    ∀ e ∈ hostPerformances, ∀ params, (e.2 params s).state.Arbitrated := by
  have quiet {t : State} (quietens : s.Quietens t) : t.Arbitrated :=
    h.arbitrated.of_quietens quietens
  have same {t : State} (traffic : t.traffic = s.traffic) : t.Arbitrated :=
    quiet (.of_traffic traffic)
  simp only [hostPerformances, List.forall_mem_cons]
  exact ⟨fun p => same (performDefineContext_traffic s p),
    fun p => same (performDeleteContext_traffic s p),
    fun p => same (performReadContext_traffic s p),
    fun p => same (performEntryWrite_traffic s .good p),
    fun p => same (performEntryWrite_traffic s .bad p),
    fun p => same (performProbe_traffic s p), fun p => quiet (performBindPort_quietens s p),
    fun p => quiet (performReleasePort_quietens s p),
    fun p => same (performSuspendPort_traffic s p),
    fun p => quiet (performAdmitPort_quietens s p),
    fun p => same (performReadPort_traffic s p), fun p => same (performFlushPort_traffic s p),
    h.arbitrated.performResumeHeld, fun p => quiet (performCancelHeld_quietens s p),
    fun p => quiet (performPopFault_quietens h.faults p),
    fun _ => quiet (performStart_quietens s _ _ _ _ _),
    fun _ => quiet (performStart_quietens s _ _ _ _ _),
    fun _ => quiet (performStart_quietens s _ _ _ _ _), h.arbitrated.performAbortTransfer,
    fun p => same (performSetWindow_traffic s p), fun p => same (performReadWindow_traffic s p),
    fun p => quiet (performQuiesce_quietens s p), fun p => quiet (performWake_quietens s p),
    fun p => quiet (performSetFrameLimit_quietens s p), fun _ => s.softReset_arbitrated,
    List.forall_mem_nil _⟩

theorem State.MemoryLawful.of_traffic (h : s.MemoryLawful) (same : u.traffic = s.traffic) :
    u.MemoryLawful :=
  h.of_quietens (h.faults.of_traffic same) (.of_traffic same)

theorem State.MemoryLawful.hostCommand (h : s.MemoryLawful) {code : BitVec 8}
    {perform : ParamWords → State → Performed} (mem : (code, perform) ∈ hostPerformances)
    (event : CommandEvent) : (s.hostCommand code perform event).MemoryLawful := by
  refine s.hostCommand_keeps code perform event h
    (fun v busy hv => hv.of_traffic (v.takeCommand_traffic busy)) fun v hv _ => ?_
  have performed := State.memoryLawful_iff.mpr
    ⟨hv.faults.performance _ mem v.command.latched, hv.performance _ mem v.command.latched⟩
  exact performed.of_traffic rfl

/-- Every command keeps the laws of the memory port. -/
theorem State.MemoryLawful.exec {i : Instr} (h : s.MemoryLawful) (e : exec i s = .next u) :
    u.MemoryLawful := by
  refine State.memoryLawful_iff.mpr ⟨h.faults.exec e, ?_⟩
  have arbitrated := h.arbitrated
  have holding := arbitrated.toHolding
  have quiet {t : State} (quietens : s.Quietens t) : t.Arbitrated :=
    arbitrated.of_quietens quietens
  refine exec_next_cases (P := State.Arbitrated) e arbitrated ?host ?unknown ?overrun ?param
    ?acknowledge ?enable ?powerOn ?pin ?release ?present ?withdraw ?opening ?lookup ?resume ?segment
    ?loadChunk ?dumpChunk ?late ?discard ?loadBegin ?loadWrite ?fillWrite ?dumpRead ?complete
  case host => exact fun code perform event mem => (h.hostCommand mem event).arbitrated
  case unknown => exact fun code => quiet (.of_traffic (s.takeCommand_traffic _))
  case powerOn => exact .of_reset (powerOn_burst s) rfl nofun (iff_of_false nofun fun ne => ne rfl)
  case pin => exact fun _ => s.pinReset_arbitrated
  case present =>
    exact fun p r _ _ => quiet (.trans (.of_traffic (s.setWaiting_traffic p _))
      (State.tryTake_quietens _ p))
  case withdraw => exact fun p => quiet (.of_traffic (s.setWaiting_traffic p none))
  case opening =>
    exact fun p r opening => quiet (State.openBurst_quietens (congrArg Burst.isMoving opening) r)
  case lookup =>
    exact fun p r walk c walking _ =>
      arbitrated.lookupPage (congrArg Burst.isMoving walking) c r walk
  case resume =>
    exact fun p r c fenced _ _ =>
      quiet (State.splitPages_quietens (congrArg Burst.isMoving fenced) c r)
  case segment =>
    exact fun p _ r segs which answer holder _ moving _ _ =>
      arbitrated.answerSegment holder moving which answer
  case loadChunk =>
    exact fun tr t w _ answer holder _ _ load _ late _ =>
      holding.answerLoad holder late (by rw [load]; nofun) w tr answer
  case dumpChunk =>
    exact fun tr t w _ clear answer holder _ _ dump _ late =>
      holding.answerDump holder late (by rw [dump]; nofun) w clear tr answer
  case late =>
    intro late holder
    have off : s.engine.state.isInFlight = false :=
      Bool.not_eq_true _ ▸ fun on => holding.oneChunk ⟨on, late⟩
    exact holding.freeEngine holder rfl rfl off rfl holding.fills
  case discard =>
    intro discarding
    obtain ⟨inFlight, late⟩ := holding.engine_off (by rw [discarding]; nofun)
    exact (holding.freed (fun q => by rw [discarding]; nofun) rfl rfl inFlight late
      holding.fills).grant
  case loadBegin =>
    intro t w _ running load none
    exact holding.requestChunk (EngineState.isInFlight_running (by rw [none]; nofun) running)
      (by rw [load]; nofun) w
  case loadWrite =>
    intro t w _ image rest running load writing _
    have written := quiet (s.writeRunEntry_quietens t (imageFields image.word0))
    have still : (s.writeRunEntry t (imageFields image.word0)).engine.state = .running t w := running
    exact written.continueLoad (EngineState.isInFlight_running (by rw [writing]; nofun) still)
      (by rw [load]; nofun) writing rest
  case fillWrite =>
    intro t w value running fill
    have written := quiet (s.writeRunEntry_quietens t value)
    have none := EngineState.fillMakesNoRequest_iff.mp holding.fills t w running (by rw [fill]; rfl)
    have still : (s.writeRunEntry t value).engine.state = .running t w := running
    split
    · exact written.endTransfer (EngineState.isInFlight_running (by rw [none]; nofun) still) .complete
    · exact written
  case dumpRead =>
    intro t w _ clear running dump reading
    exact arbitrated.readForDump (EngineState.isInFlight_running (by rw [reading]; nofun) running)
      (by rw [dump]; nofun) reading clear
  all_goals
    intros
    exact quiet (.of_same rfl rfl rfl)

end Sys2Proof.Machine

namespace Sys2Proof.Proofs

open Sys2Proof.Machine

/-- Settles O57: the command taken from the queue runs on the same traffic, and every command keeps the
laws of the memory port. -/
theorem memoryPortLaws : Obligations.MemoryPortLaws := by
  intro s t h e
  unfold step at e
  split at e
  · cases e; exact h
  · next c rest _ =>
    exact State.MemoryLawful.exec (s := { s with pending := rest }) (h.of_traffic rfl) e

end Sys2Proof.Proofs
end

section
/-! PROOFS. The frame limit (R105): a burst and a transfer below it, the laws less the transfer's
progress, and the operations on bursts, ports and the memory port that keep them. -/

namespace Sys2Proof.Machine

open Sys2Proof

variable {s u : State} {p : PortId} {c : ContextId} {r : CurrentRequest} {limit : Nat}

/-! ## A burst below the limit (R57, R61, R75) -/

/-- The segments of a burst, and what its walk has found, lie below the limit. -/
def Burst.below (b : Burst) (limit : Nat) : Prop :=
  b.walkBelow limit ∧ ∀ segs ∈ b.segments, segs.endBelow limit

/-- A request that has passed the format checks: aligned, with 1 to 64 words (R57). -/
def CurrentRequest.inFormat (r : CurrentRequest) : Prop :=
  r.address.toNat % 4 = 0 ∧ 1 ≤ r.length.toNat ∧ r.length.toNat ≤ 64

theorem Burst.below_idle : Burst.below .idle limit := ⟨trivial, nofun⟩

theorem Burst.below_opening : Burst.below (.opening r) limit := ⟨trivial, nofun⟩

theorem Burst.below_stalled : Burst.below (.stalled r) limit := ⟨trivial, nofun⟩

theorem Burst.below_fenced_iff : Burst.below (.fenced r) limit ↔ r.inFormat :=
  ⟨fun ⟨format, _⟩ => format, fun format => ⟨format, nofun⟩⟩

theorem Burst.below_queued_iff {segs : Segments} :
    Burst.below (.queued r segs) limit ↔ segs.endBelow limit :=
  ⟨fun ⟨_, segments⟩ => segments segs rfl, fun below => ⟨trivial, by rintro _ ⟨⟩; exact below⟩⟩

theorem Burst.below_moving_iff {segs : Segments} :
    Burst.below (.moving r segs) limit ↔ segs.endBelow limit :=
  ⟨fun ⟨_, segments⟩ => segments segs rfl, fun below => ⟨trivial, by rintro _ ⟨⟩; exact below⟩⟩

theorem Burst.below_held_iff {segs : Segments} {holdSet : List WindowId} {which : PageIndex} :
    Burst.below (.held r segs holdSet which) limit ↔ segs.endBelow limit :=
  ⟨fun ⟨_, segments⟩ => segments segs rfl, fun below => ⟨trivial, by rintro _ ⟨⟩; exact below⟩⟩

/-- A walk found page 1 below the limit, if it has passed it, and stands on page 1 until then. -/
theorem Burst.below_walking_iff {walk : Walk} :
    Burst.below (.walking r walk) limit ↔ r.inFormat ∧
      (∀ first ∈ walk.results, first.frame.toNat < limit ∧ first.words = r.wordsAt .one) ∧
      (walk.currentPage = .one ↔ walk.results = []) :=
  ⟨fun ⟨⟨aligned, least, most, results, stands⟩, _⟩ => ⟨⟨aligned, least, most⟩, results, stands⟩,
    fun ⟨⟨aligned, least, most⟩, results, stands⟩ =>
      ⟨⟨aligned, least, most, results, stands⟩, nofun⟩⟩

theorem formatFault_eq_none {record : Context} (passed : formatFault r record = none) :
    r.inFormat := by
  simp only [formatFault, ite_some_eq_none_iff] at passed
  obtain ⟨aligned, length, _⟩ := passed
  exact ⟨not_not.mp aligned, by omega, by omega⟩

theorem physicalAddress_le (frame : FrameNumber) (offset : Nat) :
    (physicalAddress frame offset).toNat ≤ frame.toNat * 4096 + offset := by
  rw [physicalAddress, BitVec.toNat_ofNat]
  exact Nat.mod_le _ _

/-- The words of a page of a burst end within the page's frame (R61, R75). -/
theorem segmentOf_endsBelow {result : PageResult} (format : r.inFormat) (which : PageIndex)
    (frame : result.frame.toNat < limit) (words : result.words = r.wordsAt which) :
    endsBelow (segmentOf r which result).start (segmentOf r which result).words limit := by
  obtain ⟨_, _, most⟩ := format
  cases which with
  | one =>
    have start : (segmentOf r .one result).start.toNat ≤ result.frame.toNat * 4096 + r.offset :=
      physicalAddress_le result.frame r.offset
    have size : (segmentOf r .one result).words =
      min r.length.toNat ((4096 - r.offset) / 4) := words
    have inPage : r.offset < 4096 := Nat.mod_lt _ (by decide)
    unfold endsBelow
    omega
  | two =>
    have start : (segmentOf r .two result).start.toNat ≤ result.frame.toNat * 4096 + 0 :=
      physicalAddress_le result.frame 0
    have size : (segmentOf r .two result).words =
      r.length.toNat - min r.length.toNat ((4096 - r.offset) / 4) := words
    unfold endsBelow
    omega

/-- The segments of a walk whose last page has passed lie below the limit (R75). -/
theorem segmentsOf_endBelow {walk : Walk} {result : PageResult}
    (walking : Burst.below (.walking r walk) limit) (frame : result.frame.toNat < limit)
    (words : result.words = r.wordsAt walk.currentPage) :
    (segmentsOf r walk result).endBelow limit := by
  obtain ⟨format, results, stands⟩ := Burst.below_walking_iff.mp walking
  unfold segmentsOf
  split
  · next first rest found =>
    have second : walk.currentPage = .two := by
      cases page : walk.currentPage with
      | one => exact nomatch found.symm.trans (stands.mp page)
      | two => rfl
    obtain ⟨firstFrame, firstWords⟩ := results first (by rw [found]; exact List.mem_cons_self)
    rw [second] at words
    refine ⟨segmentOf_endsBelow format .one firstFrame firstWords, ?_⟩
    rintro _ ⟨⟩
    exact segmentOf_endsBelow format .two frame words
  · next none =>
    rw [stands.mpr none] at words
    exact ⟨segmentOf_endsBelow format .one frame words, nofun⟩

/-! ## A transfer below the limit (R127, R129) -/

/-- The list of a transfer in progress lies below the limit, and its progress stays within its run. -/
def EngineState.within (e : EngineState) (done limit : Nat) : Prop :=
  match e with
  | .idle => True
  | .draining t => t.listBelow limit ∧ done < t.count
  | .running t w =>
    t.listBelow limit ∧ done < t.count ∧
      (t.job.kind = .dump → done + w.chunk.length ≤ t.count) ∧
      (t.job.kind = .dump → w.stage = some .reading → w.chunk.length < chunkSize t done)

theorem State.within_iff :
    s.engine.state.within s.engine.outcome.done s.chip.frameLimit ↔
      (∀ t ∈ s.engine.state.transfer, t.listBelow s.chip.frameLimit) ∧ s.transferProgress := by
  unfold State.transferProgress EngineState.within EngineState.transfer
  cases s.engine.state <;> simp [imp_and]

section Chunk

variable {t : Transfer} {w : Work} {done : Nat}

/-- A transfer with an empty chunk has its next entries still to come. -/
theorem EngineState.within_of_empty (list : t.listBelow limit) (more : done < t.count)
    (empty : w.chunk = []) : EngineState.within (.running t w) done limit := by
  refine ⟨list, more, fun _ => by rw [empty]; exact more.le, fun _ _ => ?_⟩
  rw [empty, chunkSize, List.length_nil]
  omega

theorem TransferJob.initialWork_chunk (job : TransferJob) : job.initialWork.chunk = [] := by
  cases job <;> rfl

/-- The chunk of a LOAD or FILL is no part of its progress. -/
theorem EngineState.within_of_not_dump (list : t.listBelow limit) (more : done < t.count)
    (other : t.job.kind ≠ .dump) : EngineState.within (.running t w) done limit :=
  ⟨list, more, fun dump => absurd dump other, fun dump => absurd dump other⟩

/-- A chunk that is not being read lacks no image. -/
theorem EngineState.within_of_not_reading (list : t.listBelow limit) (more : done < t.count)
    (inside : t.job.kind = .dump → done + w.chunk.length ≤ t.count)
    (other : w.stage ≠ some .reading) : EngineState.within (.running t w) done limit :=
  ⟨list, more, inside, fun _ reading => absurd reading other⟩

/-- The chunk's transaction lies within the transfer's list (R103, R133, R137). -/
theorem chunkTransaction_endsBelow (h : EngineState.within (.running t w) done limit) :
    ∀ tr ∈ chunkTransaction t w done, endsBelow tr.start tr.words limit := by
  obtain ⟨list, _, inside, _⟩ := h
  have start (a : Word) : (chunkAddress a done).toNat ≤ a.toNat + 8 * done := by
    rw [chunkAddress, BitVec.toNat_add, BitVec.toNat_ofNat]
    exact (Nat.mod_le _ _).trans (Nat.add_le_add_left (Nat.mod_le _ _) _)
  unfold chunkTransaction
  cases job : t.job with
  | load a =>
    have below : a.toNat + 8 * t.count ≤ limit * 4096 := list a (by rw [job]; rfl)
    have first := start a
    rintro _ ⟨⟩
    unfold endsBelow chunkSize
    dsimp only
    omega
  | dump a clear =>
    have below : a.toNat + 8 * t.count ≤ limit * 4096 := list a (by rw [job]; rfl)
    have inside := inside (by rw [job]; rfl)
    have first := start a
    rintro _ ⟨⟩
    unfold endsBelow
    dsimp only
    omega
  | fill value => exact nofun

end Chunk

/-! ## The laws less the transfer's progress -/

theorem State.atRest_iff :
    s.atRest = true ↔ (∀ q : PortId, s.ports[q].burst = .idle) ∧ s.engine.state = .idle := by
  have all (q : PortId) : q ∈ allPorts := by revert q; decide
  simp [State.atRest, Burst.isIdle_iff, EngineState.isIdle_iff, all]

/-- The laws behind R105 that do not speak of the transfer in progress. -/
structure State.Bounded (s : State) : Prop where
  range : 1 ≤ s.chip.frameLimit ∧ s.chip.frameLimit ≤ 1048576
  quiet : s.chip.mode = .quiet → s.atRest = true
  bursts : ∀ p : PortId, s.ports[p].burst.below s.chip.frameLimit
  free : s.memory.holder = .free → s.memory.transaction = none
  transaction : ∀ t ∈ s.memory.transaction, endsBelow t.start t.words s.chip.frameLimit

theorem State.limitLawful_iff :
    s.LimitLawful ↔
      s.Bounded ∧ s.engine.state.within s.engine.outcome.done s.chip.frameLimit := by
  rw [State.within_iff]
  exact ⟨fun h => ⟨⟨h.range, h.quiet, fun p => ⟨h.walks p, h.segments p⟩, h.free, h.transaction⟩,
      h.lists, h.progress⟩,
    fun ⟨h, lists, progress⟩ => ⟨h.range, h.quiet, fun p => (h.bursts p).1,
      fun p => (h.bursts p).2, lists, progress, h.free, h.transaction⟩⟩

theorem State.LimitLawful.bounded (h : s.LimitLawful) : s.Bounded :=
  (State.limitLawful_iff.mp h).1

theorem State.LimitLawful.within (h : s.LimitLawful) :
    s.engine.state.within s.engine.outcome.done s.chip.frameLimit :=
  (State.limitLawful_iff.mp h).2

/-- A QUIET part is at rest, so a part at work is not QUIET. -/
theorem State.Bounded.mode_of_burst (h : s.Bounded) (busy : s.ports[p].burst ≠ .idle) :
    s.chip.mode ≠ .quiet := fun quiet => by
  obtain ⟨idle, _⟩ := State.atRest_iff.mp (h.quiet quiet)
  exact busy (idle p)

theorem State.Bounded.mode_of_engine (h : s.Bounded) (busy : s.engine.state ≠ .idle) :
    s.chip.mode ≠ .quiet := fun quiet => by
  obtain ⟨_, idle⟩ := State.atRest_iff.mp (h.quiet quiet)
  exact busy idle

/-- A change outside the bursts, the memory port, ENGINE STATE, the mode and the limit. -/
theorem State.Bounded.of_same (h : s.Bounded)
    (bursts : ∀ q : PortId, u.ports[q].burst = s.ports[q].burst) (memory : u.memory = s.memory)
    (state : u.engine.state = s.engine.state) (mode : u.chip.mode = s.chip.mode)
    (limit : u.chip.frameLimit = s.chip.frameLimit) : u.Bounded := by
  constructor
  case range => rw [limit]; exact h.range
  case quiet =>
    intro quiet
    have rest := State.atRest_iff.mp (h.quiet (mode.symm.trans quiet))
    refine State.atRest_iff.mpr ?_
    simpa only [bursts, state] using rest
  case bursts => intro q; rw [bursts q, limit]; exact h.bursts q
  case free => rw [memory]; exact h.free
  case transaction => rw [memory, limit]; exact h.transaction

theorem State.LimitLawful.of_same (h : s.LimitLawful)
    (bursts : ∀ q : PortId, u.ports[q].burst = s.ports[q].burst) (memory : u.memory = s.memory)
    (state : u.engine.state = s.engine.state)
    (done : u.engine.outcome.done = s.engine.outcome.done) (mode : u.chip.mode = s.chip.mode)
    (limit : u.chip.frameLimit = s.chip.frameLimit) : u.LimitLawful := by
  refine State.limitLawful_iff.mpr ⟨h.bounded.of_same bursts memory state mode limit, ?_⟩
  rw [state, done, limit]
  exact h.within

theorem State.LimitLawful.of_traffic (h : s.LimitLawful) (same : u.traffic = s.traffic) :
    u.LimitLawful :=
  h.of_same (State.burst_of_traffic same) (congrArg Traffic.memory same)
    (congrArg Traffic.engine same) (congrArg Traffic.done same) (congrArg Traffic.mode same)
    (congrArg Traffic.limit same)

/-! ## Ports, modes and ENGINE STATE -/

/-- A port's burst may change to one below the limit, to no other than IDLE while QUIET. -/
theorem State.LimitLawful.updatePort {f : Port → Port} (h : s.LimitLawful)
    (below : (f s.ports[p]).burst.below s.chip.frameLimit)
    (quiet : s.chip.mode = .quiet → (f s.ports[p]).burst = .idle) :
    (s.updatePort p f).LimitLawful := by
  refine State.limitLawful_iff.mpr
    ⟨⟨h.range, fun now => ?_, fun q => ?_, h.free, h.transaction⟩, h.within⟩
  · obtain ⟨idle, engine⟩ := State.atRest_iff.mp (h.quiet now)
    refine State.atRest_iff.mpr ⟨fun q => ?_, engine⟩
    rw [State.updatePort_get]
    split
    · next same => subst same; exact quiet now
    · exact idle q
  · rw [State.updatePort_get]
    split
    · next same => subst same; exact below
    · exact h.bounded.bursts q

theorem State.LimitLawful.setBurst {burst : Burst} (h : s.LimitLawful)
    (busy : s.chip.mode ≠ .quiet) (below : burst.below s.chip.frameLimit) :
    (s.setBurst p burst).LimitLawful :=
  h.updatePort below fun quiet => absurd quiet busy

theorem State.LimitLawful.tryTake (h : s.LimitLawful) (p : PortId) :
    (s.tryTake p).LimitLawful := by
  rcases s.tryTake_cases p with ⟨eq, _⟩ | ⟨r, _, ready, eq⟩ <;> rw [eq]
  · exact h
  · obtain ⟨_, _, running, _⟩ := (s.ready_iff p).mp ready
    exact h.updatePort Burst.below_opening fun quiet => nomatch running.symm.trans quiet

theorem State.LimitLawful.foldTake (h : s.LimitLawful) (ports : List PortId) :
    (ports.foldl (fun t p => t.tryTake p) s).LimitLawful := by
  induction ports generalizing s with
  | nil => exact h
  | cons p rest ih => exact ih (h.tryTake p)

theorem State.LimitLawful.answer (h : s.LimitLawful) (p : PortId) (a : LinkAnswer) :
    (s.answer p a).LimitLawful :=
  State.LimitLawful.tryTake
    (h.updatePort (f := fun port => port.answer a) Burst.below_idle fun _ => rfl) p

theorem State.LimitLawful.setMode {mode : Mode} (h : s.LimitLawful) (other : mode ≠ .quiet) :
    (s.setMode mode).LimitLawful :=
  State.limitLawful_iff.mpr
    ⟨⟨h.range, fun quiet => absurd quiet other, h.bounded.bursts, h.free, h.transaction⟩, h.within⟩

theorem State.LimitLawful.reachQuiet (h : s.LimitLawful) : s.reachQuiet.LimitLawful := by
  rcases s.reachQuiet_cases with ⟨eq, _⟩ | ⟨_, rest, eq⟩ <;> rw [eq]
  · exact h
  · exact State.limitLawful_iff.mpr
      ⟨⟨h.range, fun _ => rest, h.bounded.bursts, h.free, h.transaction⟩, h.within⟩

/-- ENGINE STATE may change to one below the limit, to no other than IDLE while QUIET. -/
theorem State.Bounded.setEngineState {e : EngineState} (h : s.Bounded)
    (quiet : s.chip.mode = .quiet → e = .idle)
    (within : e.within s.engine.outcome.done s.chip.frameLimit) :
    (s.setEngineState e).LimitLawful := by
  refine State.limitLawful_iff.mpr
    ⟨⟨h.range, fun now => ?_, h.bursts, h.free, h.transaction⟩, within⟩
  obtain ⟨idle, _⟩ := State.atRest_iff.mp (h.quiet now)
  exact State.atRest_iff.mpr ⟨idle, quiet now⟩

theorem State.LimitLawful.endDrain (h : s.LimitLawful) : s.endDrain.LimitLawful := by
  rcases s.endDrain_cases with ⟨eq, _⟩ | ⟨t, draining, _, eq⟩ <;> rw [eq]
  · exact h
  · have busy := h.bounded.mode_of_engine (by rw [draining]; nofun)
    have within := h.within
    rw [draining] at within
    obtain ⟨list, more⟩ := within
    exact h.bounded.setEngineState (fun quiet => absurd quiet busy)
      (EngineState.within_of_empty list more t.job.initialWork_chunk)

theorem State.LimitLawful.settle (h : s.LimitLawful) : s.settle.LimitLawful :=
  h.endDrain.reachQuiet

theorem State.LimitLawful.appendAndAnswer (h : s.LimitLawful) (p : PortId) (record : FaultRecord) :
    (s.appendAndAnswer p record).LimitLawful := by
  have appended : State.LimitLawful { s with faults := s.faults.append record } :=
    h.of_same (fun _ => rfl) rfl rfl rfl rfl rfl
  exact appended.answer p _

theorem State.LimitLawful.decideFault (h : s.LimitLawful) (busy : s.chip.mode ≠ .quiet)
    (p : PortId) (r : CurrentRequest) (record : FaultRecord) :
    (s.decideFault p r record).LimitLawful := by
  rcases s.decideFault_cases p r record with ⟨_, eq⟩ | ⟨_, eq⟩ <;> rw [eq]
  · exact (h.appendAndAnswer p record).settle
  · have listed : State.LimitLawful { s with
        faults := { s.faults with stalled := s.faults.stalled ++ [(p, record)] } } :=
      h.of_same (fun _ => rfl) rfl rfl rfl rfl rfl
    exact (listed.setBurst busy Burst.below_stalled).settle

theorem State.LimitLawful.handOff (h : s.LimitLawful) : s.handOff.LimitLawful := by
  rcases s.handOff_cases with ⟨eq, _⟩ | ⟨p, record, rest, _, eq⟩ <;> rw [eq]
  · exact h
  · have listed : State.LimitLawful { s with faults := { s.faults with stalled := rest } } :=
      h.of_same (fun _ => rfl) rfl rfl rfl rfl rfl
    exact (listed.appendAndAnswer p record).settle

/-! ## The memory port (R100, R102, R105) -/

/-- A transaction below the limit may be issued for a HOLDER. -/
theorem State.LimitLawful.issue {m : MemoryPort} (h : s.LimitLawful) (held : m.holder ≠ .free)
    (below : ∀ t ∈ m.transaction, endsBelow t.start t.words s.chip.frameLimit) :
    State.LimitLawful { s with memory := m } :=
  State.limitLawful_iff.mpr
    ⟨⟨h.range, h.quiet, h.bounded.bursts, fun free => absurd free held, below⟩, h.within⟩

theorem State.LimitLawful.freeMemory (h : s.LimitLawful) : s.freeMemory.LimitLawful :=
  State.limitLawful_iff.mpr ⟨⟨h.range, h.quiet, h.bounded.bursts, fun _ => rfl, nofun⟩, h.within⟩

theorem State.LimitLawful.grant (h : s.LimitLawful) : s.grant.LimitLawful := by
  rcases s.grant_cases with ⟨eq, _⟩ | ⟨q, _, _, requests, eq⟩ <;> rw [eq]
  · exact h
  · cases q with
    | port p =>
      obtain ⟨r, segs, queued⟩ := (Burst.isQueued_iff _).mp requests
      have below := h.bounded.bursts p
      rw [queued, Burst.below_queued_iff] at below
      have ⟨first, _⟩ := below
      have busy := h.bounded.mode_of_burst (p := p) (by rw [queued]; nofun)
      rw [s.grantTo_port p r segs queued]
      refine State.LimitLawful.setBurst (h.issue nofun ?_) busy (Burst.below_moving_iff.mpr below)
      rintro _ ⟨⟩
      exact first
    | engine =>
      obtain ⟨t, w, running, requesting⟩ := (EngineState.isRequesting_iff _).mp requests
      have busy := h.bounded.mode_of_engine (by rw [running]; nofun)
      have within := h.within
      rw [running] at within
      have ⟨list, more, inside, _⟩ := within
      rw [s.grantTo_engine t w running]
      refine State.Bounded.setEngineState
        (State.LimitLawful.bounded (h.issue nofun (chunkTransaction_endsBelow within)))
        (fun quiet => absurd quiet busy) ?_
      exact EngineState.within_of_not_reading list more inside nofun

end Sys2Proof.Machine
end

section
/-! PROOFS. Bursts, transfers, commands and resets against the frame limit, and that every step keeps
the laws behind R105. -/

namespace Sys2Proof.Machine

open Sys2Proof

variable {s u : State} {p : PortId} {c : ContextId} {r : CurrentRequest}

/-! ## Translation (chapter 4) and the watch compare (chapter 9) -/

/-- The walk begins on page 1 with nothing found (R63). -/
theorem State.LimitLawful.splitPages (h : s.LimitLawful) (busy : s.chip.mode ≠ .quiet)
    (format : r.inFormat) (p : PortId) (c : ContextId) : (s.splitPages p c r).LimitLawful := by
  unfold State.splitPages
  split
  · exact h.decideFault busy p r _
  · exact h.setBurst busy (Burst.below_walking_iff.mpr ⟨format, nofun, iff_of_true rfl rfl⟩)

theorem State.LimitLawful.openBurst (h : s.LimitLawful) (busy : s.chip.mode ≠ .quiet) (p : PortId)
    (r : CurrentRequest) : (s.openBurst p r).LimitLawful := by
  unfold State.openBurst
  split
  · exact h.decideFault busy p r _
  · next c _ =>
    split
    · exact h.decideFault busy p r _
    · next passed =>
      have format := formatFault_eq_none passed
      unfold State.fenceCheck
      split
      · exact (h.setBurst busy (Burst.below_fenced_iff.mpr format)).settle
      · exact h.splitPages busy format p c

theorem State.LimitLawful.watchCompare (h : s.LimitLawful) (busy : s.chip.mode ≠ .quiet)
    {segs : Segments} (below : segs.endBelow s.chip.frameLimit) (p : PortId) (r : CurrentRequest) :
    (s.watchCompare p r segs).LimitLawful := by
  unfold State.watchCompare
  split
  · have noted := s.noteMatches_traffic p r.direction segs
    have mode : (s.noteMatches p r.direction segs).chip.mode = s.chip.mode :=
      congrArg Traffic.mode noted
    have limit : (s.noteMatches p r.direction segs).chip.frameLimit = s.chip.frameLimit :=
      congrArg Traffic.limit noted
    have hits : ((s.noteMatches p r.direction segs).recordHits p r segs).LimitLawful :=
      h.of_traffic noted
    refine (hits.setBurst ?_ (Burst.below_queued_iff.mpr ?_)).grant <;> rw [State.recordHits_chip]
    · rw [mode]; exact busy
    · rw [limit]; exact below
  · have hits : (s.recordHits p r segs).LimitLawful := h.of_traffic rfl
    exact hits.setBurst busy (Burst.below_held_iff.mpr below)

/-- A page that has passed its tests has a frame below the limit: it goes into the walk, or with the
last page into the segments (R73, R75). -/
theorem State.LimitLawful.passPage (h : s.LimitLawful) (busy : s.chip.mode ≠ .quiet) {walk : Walk}
    {result : PageResult} (walking : Burst.below (.walking r walk) s.chip.frameLimit)
    (frame : result.frame.toNat < s.chip.frameLimit)
    (words : result.words = r.wordsAt walk.currentPage) (p : PortId) (c : ContextId) :
    (s.passPage p c r walk result).LimitLawful := by
  unfold State.passPage
  split
  · next pages =>
    obtain ⟨one, _⟩ := pages
    split
    · exact h.decideFault busy p r _
    · obtain ⟨format, _, _⟩ := Burst.below_walking_iff.mp walking
      rw [one] at words
      refine h.setBurst busy (Burst.below_walking_iff.mpr ⟨format, fun first mem => ?_, ?_⟩)
      · obtain rfl := List.mem_singleton.mp mem
        exact ⟨frame, words⟩
      · exact iff_of_false nofun nofun
  · exact h.watchCompare busy (segmentsOf_endBelow walking frame words) p r

theorem pageFault_frame_lt {e : MapEntry} {direction : Direction} {limit : Nat}
    (passed : pageFault e direction limit = none) : e.fields.frame.toNat < limit := by
  obtain ⟨_, _, _, _, below⟩ := (pageFault_eq_none_iff e direction limit).mp passed
  exact below

theorem State.LimitLawful.lookupPage (h : s.LimitLawful) {walk : Walk}
    (walking : s.ports[p].burst = .walking r walk) (c : ContextId) :
    (s.lookupPage p c r walk).LimitLawful := by
  have busy := h.bounded.mode_of_burst (p := p) (by rw [walking]; nofun)
  have below := h.bounded.bursts p
  rw [walking] at below
  have same := s.lookup_traffic p (s.contexts[c].base + r.pageAt walk.currentPage)
    (r.pageAt walk.currentPage) r.direction
  have after := h.of_traffic same
  have mode := congrArg Traffic.mode same
  have limit := congrArg Traffic.limit same
  dsimp only [State.traffic] at mode limit
  unfold State.lookupPage
  dsimp only
  split
  · exact after.decideFault (mode ▸ busy) p r _
  · next passed =>
    refine after.passPage (mode ▸ busy) ?_ ?_ rfl p c <;> rw [limit]
    · exact below
    · exact pageFault_frame_lt passed

/-! ## Answers to a port's transactions (R102, R106) -/

theorem State.LimitLawful.finishBurst (h : s.LimitLawful) (p : PortId) (r : CurrentRequest) :
    (s.finishBurst p r).LimitLawful :=
  (h.freeMemory.answer p _).settle.grant

theorem State.LimitLawful.answerSegment (h : s.LimitLawful) {segs : Segments}
    (holder : s.memory.holder = .requester (.port p)) (moving : s.ports[p].burst = .moving r segs)
    (which : PageIndex) (answer : MemoryAnswer) :
    (s.answerSegment p r segs which answer).LimitLawful := by
  cases answer with
  | error =>
    have busy := h.bounded.mode_of_burst (p := p) (by rw [moving]; nofun)
    exact (h.freeMemory.decideFault busy p r _).grant
  | ok words =>
    have received := h.of_traffic (s.receiveWords_traffic p (bufferPosition segs which) words)
    unfold State.answerSegment
    dsimp only
    split
    · next two =>
      have below := h.bounded.bursts p
      rw [moving, Burst.below_moving_iff] at below
      obtain ⟨_, second⟩ := below
      refine received.issue ?_ ?_
      · rw [State.receiveWords_memory, holder]; nofun
      · rintro _ ⟨⟩
        exact second _ two
    · exact received.finishBurst p r
    · exact received.finishBurst p r

/-! ## The start and the end of a transfer (R129, R130, R141) -/

theorem listFault_eq_none {job : TransferJob} {count limit : Nat}
    (passed : listFault job count limit = none) :
    ∀ a ∈ job.listAddress, a.toNat + 8 * count ≤ limit * 4096 := by
  intro a mem
  rw [Option.mem_def] at mem
  simp only [listFault, mem, ite_some_eq_none_iff] at passed
  omega

theorem State.LimitLawful.startTransfer (h : s.LimitLawful) (busy : s.chip.mode ≠ .quiet)
    {t : Transfer} (list : t.listBelow s.chip.frameLimit) (positive : 1 ≤ t.count) :
    (s.startTransfer t).LimitLawful := by
  unfold State.startTransfer
  dsimp only
  split
  · refine State.LimitLawful.endDrain (State.Bounded.setEngineState ?_
      (fun quiet => absurd quiet busy) ⟨list, positive⟩)
    exact h.bounded.of_same (fun _ => rfl) rfl rfl rfl rfl
  · refine State.Bounded.setEngineState ?_ (fun quiet => absurd quiet busy)
      (EngineState.within_of_empty list positive t.job.initialWork_chunk)
    exact h.bounded.of_same (fun _ => rfl) rfl rfl rfl rfl

/-- The end of a transfer needs nothing of its progress. -/
theorem State.Bounded.endTransfer (h : s.Bounded) (result : OutcomeState) :
    (s.endTransfer result).LimitLawful := by
  cases progress : s.engine.state.transfer with
  | none =>
    have idle := (EngineState.transfer_eq_none_iff _).mp progress
    simp only [State.endTransfer, progress]
    exact State.limitLawful_iff.mpr ⟨h, by rw [idle]; trivial⟩
  | some t =>
    have ended : (s.setEngineState .idle).LimitLawful := h.setEngineState (fun _ => rfl) trivial
    rw [s.endTransfer_of result t progress]
    exact State.LimitLawful.reachQuiet (ended.of_same (fun _ => rfl) rfl rfl rfl rfl rfl)

theorem State.Bounded.endWithError (h : s.Bounded) (start : Word) (marksLost : Nat) :
    (s.endWithError start marksLost).LimitLawful := by
  have recorded : (s.updateOutcome fun o =>
      { o with marksLost, failingAddress := some start }).Bounded :=
    h.of_same (fun _ => rfl) rfl rfl rfl rfl
  exact recorded.endTransfer .memoryError

theorem State.Bounded.raiseDone (h : s.Bounded) (n : Nat) : (s.raiseDone n).Bounded :=
  h.of_same (fun _ => rfl) rfl rfl rfl rfl

/-! ## The transfer's own events (chapter 8) -/

section Running

variable {t : Transfer} {w : Work}

theorem State.Bounded.setRunning (h : s.Bounded) (busy : s.chip.mode ≠ .quiet)
    (within : EngineState.within (.running t w) s.engine.outcome.done s.chip.frameLimit) :
    (s.setEngineState (.running t w)).LimitLawful :=
  h.setEngineState (fun quiet => absurd quiet busy) within

theorem State.Bounded.requestChunk (h : s.Bounded) (busy : s.chip.mode ≠ .quiet)
    (list : t.listBelow s.chip.frameLimit) (more : s.engine.outcome.done < t.count)
    (inside : t.job.kind = .dump → s.engine.outcome.done + w.chunk.length ≤ t.count) :
    (s.requestChunk t w).LimitLawful := by
  refine State.LimitLawful.grant (h.setRunning busy ?_)
  exact EngineState.within_of_not_reading list more inside nofun

/-- A running transfer is at work, within its list and its run. -/
theorem State.LimitLawful.running (h : s.LimitLawful) (running : s.engine.state = .running t w) :
    s.chip.mode ≠ .quiet ∧
      EngineState.within (.running t w) s.engine.outcome.done s.chip.frameLimit :=
  ⟨h.bounded.mode_of_engine (by rw [running]; nofun), running ▸ h.within⟩

theorem State.LimitLawful.answerLoad (h : s.LimitLawful)
    (running : s.engine.state = .running t w) (other : t.job.kind ≠ .dump) (tr : Transaction)
    (answer : MemoryAnswer) : (s.answerLoad t w tr answer).LimitLawful := by
  obtain ⟨busy, list, more, _⟩ := h.running running
  cases answer with
  | ok words =>
    exact (h.freeMemory.bounded.setRunning busy
      (EngineState.within_of_not_dump list more other)).grant
  | error => exact (h.freeMemory.bounded.endWithError tr.start 0).grant

/-- The chunk written counts as done: the end at COUNT, or an empty chunk with more to come (R138). -/
theorem State.LimitLawful.acceptDump (h : s.LimitLawful)
    (running : s.engine.state = .running t w) (dump : t.job.kind = .dump) :
    (s.acceptDump t w).LimitLawful := by
  obtain ⟨busy, list, _, inside, _⟩ := h.running running
  have counted := h.bounded.raiseDone w.chunk.length
  unfold State.acceptDump
  dsimp only
  split
  · exact counted.endTransfer .complete
  · next short =>
    have more : s.engine.outcome.done + w.chunk.length < t.count := lt_of_le_of_ne (inside dump) short
    split
    · exact counted.endTransfer .aborted
    · exact counted.setRunning busy (EngineState.within_of_empty list more rfl)

theorem State.LimitLawful.answerDump (h : s.LimitLawful)
    (running : s.engine.state = .running t w) (dump : t.job.kind = .dump) (clear : Bool)
    (tr : Transaction) (answer : MemoryAnswer) :
    (s.answerDump t w clear tr answer).LimitLawful := by
  cases answer with
  | ok words => exact (h.freeMemory.acceptDump running dump).grant
  | error => exact (h.freeMemory.bounded.endWithError tr.start _).grant

/-- A run entry written counts as done and leaves the transfer within its run (R134, R136). -/
theorem State.LimitLawful.writeRunEntry (h : s.LimitLawful) (t : Transfer) (fields : Fields) :
    (s.writeRunEntry t fields).Bounded := by
  have same := s.writeRunEntry_traffic t fields
  exact (h.bounded.raiseDone 1).of_same (State.burst_of_traffic same)
    (congrArg Traffic.memory same) (congrArg Traffic.engine same) (congrArg Traffic.mode same)
    (congrArg Traffic.limit same)

theorem State.Bounded.continueLoad (h : s.Bounded) (busy : s.chip.mode ≠ .quiet)
    (list : t.listBelow s.chip.frameLimit) (inside : s.engine.outcome.done ≤ t.count)
    (other : t.job.kind ≠ .dump) (w : Work) (rest : List ChunkImage) :
    (s.continueLoad t w rest).LimitLawful := by
  unfold State.continueLoad
  split
  · exact h.endTransfer .complete
  · next short =>
    have more := lt_of_le_of_ne inside short
    split
    · exact h.requestChunk busy list more fun dump => absurd dump other
    · exact h.setRunning busy (EngineState.within_of_not_dump list more other)

/-- An image read is one of the chunk's, and with the last of them the write is asked for (R137). -/
theorem State.LimitLawful.readForDump (h : s.LimitLawful)
    (running : s.engine.state = .running t w) (dump : t.job.kind = .dump)
    (reading : w.stage = some .reading) (clear : Bool) :
    (s.readForDump t w clear).LimitLawful := by
  obtain ⟨busy, list, more, _, lacks⟩ := h.running running
  have size : chunkSize t s.engine.outcome.done ≤ t.count - s.engine.outcome.done :=
    Nat.min_le_right _ _
  have inside (image : ChunkImage) :
      s.engine.outcome.done + (w.chunk ++ [image]).length ≤ t.count := by
    have room := lacks dump reading
    rw [List.length_append, List.length_singleton]
    omega
  have same := s.dumpAccess_traffic clear (s.runIndex t (s.engine.outcome.done + w.chunk.length))
  have read := (h.of_traffic same).bounded
  have mode := congrArg Traffic.mode same
  have limit := congrArg Traffic.limit same
  have done := congrArg Traffic.done same
  dsimp only [State.traffic] at mode limit done
  unfold State.readForDump
  dsimp only
  split
  · next short =>
    refine read.setRunning (mode ▸ busy) ?_
    rw [limit, done]
    exact ⟨list, more, fun _ => inside _, fun _ _ => short⟩
  · refine State.Bounded.requestChunk read (mode ▸ busy) ?_ ?_ ?_
    · rw [limit]; exact list
    · rw [done]; exact more
    · rw [done]; exact fun _ => inside _

/-! ## ABORT TRANSFER (R142, R143, R144) -/

theorem State.LimitLawful.abortDump (h : s.LimitLawful)
    (running : s.engine.state = .running t w) : (s.abortDump t w).LimitLawful := by
  obtain ⟨busy, within⟩ := h.running running
  have ⟨list, more, inside, _⟩ := within
  unfold State.abortDump
  split
  · exact h.bounded.setRunning busy within
  · exact h.bounded.setRunning busy within
  all_goals
    split
    · exact h.bounded.endTransfer .aborted
    · exact h.bounded.requestChunk busy list more inside

theorem State.LimitLawful.abort (h : s.LimitLawful) : s.abort.LimitLawful := by
  unfold State.abort
  split
  · exact h
  · exact h.bounded.endTransfer .aborted
  · next t w running =>
    split
    · refine State.Bounded.endTransfer ?_ .aborted
      split
      · exact h.bounded.of_same (fun _ => rfl) rfl rfl rfl rfl
      · exact h.bounded
    · exact h.bounded.endTransfer .aborted
    · exact h.abortDump running

end Running

/-! ## Performances -/

/-- BIND PORT and RELEASE PORT change no burst. -/
theorem State.rebind_burst (s : State) (p : PortId) {f : Port → Port} (c : ContextId)
    (g : Context → Context) (keeps : ∀ port, (f port).burst = port.burst) (q : PortId) :
    ((s.updatePort p f).updateContext c g).ports[q].burst = s.ports[q].burst := by
  rw [State.updateContext_ports, State.updatePort_get]
  split
  · exact keeps _
  · rfl

theorem State.LimitLawful.performBindPort (h : s.LimitLawful) (params : ParamWords) :
    (performBindPort params s).state.LimitLawful := by
  rcases performBindPort_cases s params with eq | ⟨p, c, _, _, _, eq⟩ <;> rw [eq]
  · exact h
  · exact h.of_same (s.rebind_burst p c _ fun _ => rfl) rfl rfl rfl rfl rfl

theorem State.LimitLawful.performReleasePort (h : s.LimitLawful) (params : ParamWords) :
    (performReleasePort params s).state.LimitLawful := by
  rcases performReleasePort_cases s params with eq | ⟨p, c, _, _, eq⟩ <;> rw [eq]
  · exact h
  · exact h.of_same (s.rebind_burst p c _ fun _ => rfl) rfl rfl rfl rfl rfl

theorem State.LimitLawful.performAdmitPort (h : s.LimitLawful) (params : ParamWords) :
    (performAdmitPort params s).state.LimitLawful :=
  withPort_keeps s h fun p => (h.of_traffic (s.setGate_traffic p .admitted)).tryTake p

theorem State.LimitLawful.performResumeHeld (h : s.LimitLawful) (params : ParamWords) :
    (performResumeHeld params s).state.LimitLawful := by
  refine withPort_keeps s h fun p => ?_
  split
  · next held =>
    have below := h.bounded.bursts p
    rw [held, Burst.below_held_iff] at below
    exact (h.setBurst (h.bounded.mode_of_burst (p := p) (by rw [held]; nofun))
      (Burst.below_queued_iff.mpr below)).grant
  all_goals exact h

theorem State.LimitLawful.performCancelHeld (h : s.LimitLawful) (params : ParamWords) :
    (performCancelHeld params s).state.LimitLawful := by
  refine withPort_keeps s h fun p => ?_
  split
  · next held =>
    exact h.decideFault (h.bounded.mode_of_burst (p := p) (by rw [held]; nofun)) p _ _
  all_goals exact h

theorem State.LimitLawful.performPopFault (h : s.LimitLawful) (params : ParamWords) :
    (performPopFault params s).state.LimitLawful := by
  unfold Machine.performPopFault
  split
  · exact h
  · exact State.LimitLawful.handOff (h.of_same (fun _ => rfl) rfl rfl rfl rfl rfl)

theorem State.LimitLawful.performStart (h : s.LimitLawful) (context firstPage count : Word)
    (fence : Option Bool) (job : Option TransferJob) :
    (performStart context firstPage count fence job s).state.LimitLawful := by
  rcases performStart_cases s context firstPage count fence job with
    eq | ⟨t, _, running, _, positive, _, _, list, eq⟩ <;> rw [eq]
  · exact h
  · exact h.startTransfer (by rw [running]; nofun) (listFault_eq_none list) positive

theorem State.LimitLawful.performAbortTransfer (h : s.LimitLawful) (params : ParamWords) :
    (performAbortTransfer params s).state.LimitLawful := by
  unfold Machine.performAbortTransfer
  split
  · exact h
  · exact h.abort

theorem State.LimitLawful.performQuiesce (h : s.LimitLawful) (params : ParamWords) :
    (performQuiesce params s).state.LimitLawful := by
  unfold Machine.performQuiesce
  split
  · have quiescing : (s.setMode .quiescing).LimitLawful := h.setMode nofun
    exact quiescing.reachQuiet
  · exact h

theorem State.LimitLawful.performWake (h : s.LimitLawful) (params : ParamWords) :
    (performWake params s).state.LimitLawful := by
  unfold Machine.performWake
  split
  · exact h
  · have running : (s.setMode .running).LimitLawful := h.setMode nofun
    simpa only [performedOk] using running.foldTake allPorts

/-- The limit changes only while the part is QUIET, with no burst, no transfer and no transaction. -/
theorem State.LimitLawful.performSetFrameLimit (h : s.LimitLawful) (params : ParamWords) :
    (performSetFrameLimit params s).state.LimitLawful := by
  unfold Machine.performSetFrameLimit
  split
  · exact h
  · next still =>
    rw [not_or, not_not, not_not] at still
    obtain ⟨quiet, free⟩ := still
    obtain ⟨idle, engine⟩ := State.atRest_iff.mp (h.quiet quiet)
    split
    · exact h
    · next range =>
      rw [not_or, Nat.not_lt] at range
      obtain ⟨positive, most⟩ := range
      refine State.limitLawful_iff.mpr ⟨⟨⟨Nat.one_le_iff_ne_zero.mpr positive, most⟩, h.quiet,
        fun q => ?_, h.free, fun t mem => ?_⟩, ?_⟩
      · dsimp only; rw [idle q]; exact Burst.below_idle
      · exact nomatch (h.free free).symm.trans mem
      · dsimp only; rw [engine]; trivial

/-! ## Resets (R110, R183) -/

theorem endsBelow_mono {start : Word} {words limit limit' : Nat} (le : limit ≤ limit')
    (below : endsBelow start words limit) : endsBelow start words limit' :=
  below.trans (Nat.mul_le_mul_right 4096 le)

theorem ChipControl.initial_range :
    1 ≤ ChipControl.initial.frameLimit ∧ ChipControl.initial.frameLimit ≤ 1048576 := by
  decide

/-- A reset leaves every burst and the engine IDLE, and at most a transaction to its answer. -/
theorem State.LimitLawful.of_reset (idle : ∀ q : PortId, u.ports[q].burst = .idle)
    (engine : u.engine = Engine.initial)
    (range : 1 ≤ u.chip.frameLimit ∧ u.chip.frameLimit ≤ 1048576)
    (free : u.memory.holder = .free → u.memory.transaction = none)
    (transaction : ∀ t ∈ u.memory.transaction, endsBelow t.start t.words u.chip.frameLimit) :
    u.LimitLawful := by
  refine State.limitLawful_iff.mpr ⟨⟨range, fun _ => ?_, fun q => ?_, free, transaction⟩, ?_⟩
  · exact State.atRest_iff.mpr ⟨idle, by rw [engine]; rfl⟩
  · rw [idle q]; exact Burst.below_idle
  · rw [engine]; trivial

theorem MemoryPort.reset_free (m : MemoryPort) :
    m.reset.holder = .free → m.reset.transaction = none := by
  unfold MemoryPort.reset
  cases m.transaction <;> simp

theorem State.LimitLawful.softReset (h : s.LimitLawful) : s.softReset.LimitLawful :=
  .of_reset s.softReset_burst rfl h.range s.memory.reset_free h.transaction

theorem State.LimitLawful.pinReset (h : s.LimitLawful) : s.pinReset.LimitLawful := by
  obtain ⟨_, most⟩ := h.range
  exact .of_reset s.pinReset_burst rfl ChipControl.initial_range s.memory.reset_free fun t mem =>
    endsBelow_mono most (h.transaction t mem)

/-! ## Every performance, every command, every step -/

theorem State.LimitLawful.performance (h : s.LimitLawful) :
    ∀ e ∈ hostPerformances, ∀ params, (e.2 params s).state.LimitLawful := by
  simp only [hostPerformances, List.forall_mem_cons]
  exact ⟨fun p => h.of_traffic (performDefineContext_traffic s p),
    fun p => h.of_traffic (performDeleteContext_traffic s p),
    fun p => h.of_traffic (performReadContext_traffic s p),
    fun p => h.of_traffic (performEntryWrite_traffic s .good p),
    fun p => h.of_traffic (performEntryWrite_traffic s .bad p),
    fun p => h.of_traffic (performProbe_traffic s p), h.performBindPort, h.performReleasePort,
    fun p => h.of_traffic (performSuspendPort_traffic s p), h.performAdmitPort,
    fun p => h.of_traffic (performReadPort_traffic s p),
    fun p => h.of_traffic (performFlushPort_traffic s p), h.performResumeHeld,
    h.performCancelHeld, h.performPopFault, fun _ => h.performStart _ _ _ _ _,
    fun _ => h.performStart _ _ _ _ _, fun _ => h.performStart _ _ _ _ _, h.performAbortTransfer,
    fun p => h.of_traffic (performSetWindow_traffic s p),
    fun p => h.of_traffic (performReadWindow_traffic s p), h.performQuiesce, h.performWake,
    h.performSetFrameLimit, fun _ => h.softReset, List.forall_mem_nil _⟩

/-- Every command keeps the laws behind R105. -/
theorem State.LimitLawful.exec {i : Instr} (h : s.LimitLawful) (e : exec i s = .next u) :
    u.LimitLawful := by
  have busy {q : PortId} (burst : s.ports[q].burst ≠ .idle) : s.chip.mode ≠ .quiet :=
    h.bounded.mode_of_burst burst
  refine exec_next_cases (P := State.LimitLawful) e h ?host ?unknown ?overrun ?param ?acknowledge
    ?enable ?powerOn ?pin ?release ?present ?withdraw ?opening ?lookup ?resume ?segment ?loadChunk
    ?dumpChunk ?late ?discard ?loadBegin ?loadWrite ?fillWrite ?dumpRead ?complete
  case host =>
    intro code perform event mem
    exact s.hostCommand_keeps code perform event h
      (fun v busy hv => hv.of_traffic (v.takeCommand_traffic busy))
      fun v hv _ => (hv.performance _ mem _).of_traffic rfl
  case unknown => exact fun code => h.of_traffic (s.takeCommand_traffic _)
  case powerOn => exact .of_reset (powerOn_burst s) rfl ChipControl.initial_range (fun _ => rfl) nofun
  case pin => exact fun _ => h.pinReset
  case present => exact fun p r _ _ => (h.of_traffic (s.setWaiting_traffic p _)).tryTake p
  case withdraw => exact fun p => h.of_traffic (s.setWaiting_traffic p none)
  case opening =>
    exact fun p r opening => h.openBurst (busy (q := p) (by rw [opening]; nofun)) p r
  case lookup => exact fun p r walk c walking _ => h.lookupPage walking c
  case resume =>
    intro p r c fenced _ _
    have below := h.bounded.bursts p
    rw [fenced, Burst.below_fenced_iff] at below
    exact h.splitPages (busy (q := p) (by rw [fenced]; nofun)) below p c
  case segment =>
    exact fun p _ r segs which answer holder _ moving _ _ =>
      h.answerSegment holder moving which answer
  case loadChunk =>
    exact fun tr t w _ answer _ _ running load _ _ _ =>
      h.answerLoad running (by rw [load]; nofun) tr answer
  case dumpChunk =>
    exact fun tr t w _ clear answer _ _ running dump _ _ =>
      h.answerDump running (by rw [dump]; rfl) clear tr answer
  case late =>
    intro _ _
    have absent : State.LimitLawful { s with engine := { s.engine with late := false } } :=
      h.of_same (fun _ => rfl) rfl rfl rfl rfl rfl
    exact absent.freeMemory.grant
  case discard => exact fun _ => h.freeMemory.grant
  case loadBegin =>
    intro t w _ running _ _
    obtain ⟨busy, list, more, inside, _⟩ := h.running running
    exact h.bounded.requestChunk busy list more inside
  case loadWrite =>
    intro t w _ image rest running load _ _
    obtain ⟨busy, list, more, _⟩ := h.running running
    exact (h.writeRunEntry t (imageFields image.word0)).continueLoad busy list more
      (by rw [load]; nofun) w rest
  case fillWrite =>
    intro t w value running fill
    obtain ⟨_, list, more, _⟩ := h.running running
    have written := h.writeRunEntry t value
    split
    · exact written.endTransfer .complete
    · next short =>
      have still : (s.writeRunEntry t value).engine.state = .running t w := running
      refine State.limitLawful_iff.mpr ⟨written, ?_⟩
      rw [still]
      exact EngineState.within_of_not_dump list (lt_of_le_of_ne more short) (by rw [fill]; nofun)
  case dumpRead =>
    exact fun t w _ clear running dump reading =>
      h.readForDump running (by rw [dump]; rfl) reading clear
  all_goals
    intros
    exact h.of_traffic rfl

end Sys2Proof.Machine

namespace Sys2Proof.Proofs

open Sys2Proof.Machine

/-- Settles O58: the command taken from the queue runs on the same traffic, and every command keeps the
laws behind R105. -/
theorem frameLimitLaws : Obligations.FrameLimitLaws := by
  intro s t h e
  unfold step at e
  split at e
  · cases e; exact h
  · next c rest _ =>
    exact State.LimitLawful.exec (s := { s with pending := rest }) (h.of_traffic rfl) e

end Sys2Proof.Proofs
end

section
/-! PROOFS. The event flags and HINT (section 11.1): when a level flag is set, and that two words of
flags have a bit in common exactly when some flag is set in both. -/

namespace Sys2Proof.Machine

open Sys2Proof

variable {s : State}

/-! ## The level flags (R121, R157) -/

theorem State.faultsFlag_iff (s : State) : s.faultsFlag = true ↔ s.faults.records ≠ [] := by
  simp [State.faultsFlag]

theorem State.stalledFlag_iff (s : State) : s.stalledFlag = true ↔ s.faults.stalled ≠ [] := by
  simp [State.stalledFlag]

theorem mem_allPorts (p : PortId) : p ∈ allPorts := by
  revert p; decide

theorem Burst.isHeld_iff (b : Burst) :
    b.isHeld = true ↔ ∃ r segs holdSet which, b = .held r segs holdSet which := by
  cases b <;> simp [Burst.isHeld]

theorem State.heldFlag_iff (s : State) :
    s.heldFlag = true ↔ ∃ p : PortId, s.ports[p].burst.isHeld = true := by
  simp [State.heldFlag, mem_allPorts]

/-! ## HINT (R179) -/

/-- The flags of EVENTS: the bit of R171, the flag, and its enable. -/
def State.eventFlags (s : State) : List (Nat × Bool × Bool) :=
  [(0, s.faultsFlag, s.chip.enables.faults), (1, s.stalledFlag, s.chip.enables.stalled),
   (2, s.heldFlag, s.chip.enables.held),
   (8, s.chip.flags.transferEnd, s.chip.enables.transferEnd),
   (9, s.chip.flags.storeError, s.chip.enables.storeError),
   (10, s.chip.flags.watchNote, s.chip.enables.watchNote),
   (11, s.chip.flags.quietReached, s.chip.enables.quietReached),
   (12, s.chip.flags.overrun, s.chip.enables.overrun)]

theorem State.eventsWord_eq (s : State) :
    eventsWord s = joinFields (s.eventFlags.map fun f => placeBit f.1 f.2.1) := rfl

theorem State.enablesWord_eq (s : State) :
    enablesWord s.chip.enables = joinFields (s.eventFlags.map fun f => placeBit f.1 f.2.2) := rfl

/-- HINT is asserted exactly while a flag is set whose enable is set. -/
theorem State.hint_iff (s : State) :
    s.hint = true ↔ ∃ f ∈ s.eventFlags, f.2.1 = true ∧ f.2.2 = true := by
  simp [State.hint, State.eventFlags, or_assoc]

theorem State.hint_of_no_enable (none : s.chip.enables = .clear) : s.hint = false := by
  simp [State.hint, none, EventEnables.clear]

/-- A bit of joined yes-or-no fields is that of a set field placed there. -/
theorem joinFields_placeBit_getLsbD (fields : List (Nat × Bool × Bool))
    (value : Nat × Bool × Bool → Bool) (i : Nat) :
    (joinFields (fields.map fun f => placeBit f.1 (value f))).getLsbD i = true ↔
      i < 32 ∧ ∃ f ∈ fields, f.1 = i ∧ value f = true := by
  simp only [joinFields_getLsbD, List.any_map, List.any_eq_true, Function.comp_apply,
    placeBit_getLsbD, Bool.and_eq_true, decide_eq_true_eq]
  constructor
  · rintro ⟨f, mem, ⟨set, below⟩, rfl⟩
    exact ⟨below, f, mem, rfl, set⟩
  · rintro ⟨below, f, mem, rfl, set⟩
    exact ⟨f, mem, ⟨set, below⟩, rfl⟩

/-- Two words of yes-or-no fields, each field at a place of its own, have a bit in common exactly when
some field is set in both. -/
theorem joinFields_and_ne_zero_iff (fields : List (Nat × Bool × Bool))
    (places : (fields.map Prod.fst).Nodup) (inside : ∀ f ∈ fields, f.1 < 32) :
    joinFields (fields.map fun f => placeBit f.1 f.2.1) &&&
        joinFields (fields.map fun f => placeBit f.1 f.2.2) ≠ 0#32 ↔
      ∃ f ∈ fields, f.2.1 = true ∧ f.2.2 = true := by
  simp only [Ne, BitVec.zero_iff_eq_false, not_forall, Bool.not_eq_false, BitVec.getLsbD_and,
    Bool.and_eq_true, joinFields_placeBit_getLsbD]
  constructor
  · rintro ⟨_, ⟨_, f, mem, rfl, first⟩, _, g, memG, same, second⟩
    obtain rfl : g = f := List.inj_on_of_nodup_map places memG mem same
    exact ⟨g, mem, first, second⟩
  · rintro ⟨f, mem, first, second⟩
    exact ⟨f.1, ⟨inside f mem, f, mem, rfl, first⟩, inside f mem, f, mem, rfl, second⟩

/-- HINT as the host reads the flags and their enables. -/
theorem State.hint_iff_hostRead (released : s.chip.resetHeld = false) :
    s.hint = true ↔ s.hostRead 13 &&& s.hostRead 14 ≠ 0#32 := by
  have events : s.hostRead 13 = eventsWord s := by simp [State.hostRead, released]
  have enables : s.hostRead 14 = enablesWord s.chip.enables := by simp [State.hostRead, released]
  rw [s.hint_iff, events, enables, s.eventsWord_eq, s.enablesWord_eq]
  exact (joinFields_and_ne_zero_iff s.eventFlags (by simp [State.eventFlags])
    (by simp [State.eventFlags])).symm

/-! ## At the reset values (R184) -/

theorem State.faultsFlag_of_heldAtReset (h : s.heldAtReset) : s.faultsFlag = false := by
  obtain ⟨_, _, _, _, _, faults, _⟩ := h
  simp [State.faultsFlag, faults]

theorem State.stalledFlag_of_heldAtReset (h : s.heldAtReset) : s.stalledFlag = false := by
  obtain ⟨_, _, _, _, _, faults, _⟩ := h
  simp [State.stalledFlag, faults]

theorem State.heldFlag_of_heldAtReset (h : s.heldAtReset) : s.heldFlag = false := by
  obtain ⟨_, _, ports, _⟩ := h
  rw [← Bool.not_eq_true, s.heldFlag_iff]
  rintro ⟨p, held⟩
  obtain ⟨_, _, idle, _⟩ := ports p
  exact nomatch (congrArg Burst.isHeld idle).symm.trans held

end Sys2Proof.Machine

namespace Sys2Proof.Proofs

open Sys2Proof.Machine

/-- Settles O13: each level flag is its condition, and HINT a bit that EVENTS and EVENT ENABLE share;
at the reset values every enable is clear. -/
theorem flagsAndHint : Obligations.FlagsAndHint := by
  refine fun s => ⟨fun reset => ?_, s.faultsFlag_iff, s.stalledFlag_iff, ?_,
    State.hint_iff_hostRead⟩
  · have ⟨_, _, _, _, _, _, _, _, _, flags, enables, _⟩ := reset
    exact ⟨State.faultsFlag_of_heldAtReset reset, State.stalledFlag_of_heldAtReset reset,
      State.heldFlag_of_heldAtReset reset, flags, enables, State.hint_of_no_enable enables⟩
  · simp only [s.heldFlag_iff, Burst.isHeld_iff]

end Sys2Proof.Proofs
end

section
/-! PROOFS. The fault queue (chapter 7): the append-or-stall rule, POP FAULT with its hand-off, and that
every step keeps the laws. -/

namespace Sys2Proof.Machine

open Sys2Proof Sys2Proof.Statements

variable {s : State} {p : PortId}

/-! ## An answer, with the take that may follow it (R40, R36) -/

/-- An answered port is IDLE, so READY turns on its gate, the mode and the reset input. -/
theorem State.answered_ready_iff (s : State) (p : PortId) (a : LinkAnswer) :
    (s.updatePort p fun port => port.answer a).ready p = true ↔
      s.ports[p].gate = .admitted ∧ s.chip.mode = .running ∧ s.chip.resetHeld = false := by
  rw [State.ready_iff, s.updatePort_same p]
  exact and_congr_right fun _ => and_iff_right rfl

/-- With a request waiting at a port that is then READY, the answer is followed by the take. -/
theorem State.answer_port_of_taken {q : Request} (waiting : s.ports[p].link.waiting = some q)
    (admitted : s.ports[p].gate = .admitted) (running : s.chip.mode = .running)
    (released : s.chip.resetHeld = false) (a : LinkAnswer) :
    (s.answer p a).ports[p] = taking (s.ports[p].answer a) q := by
  have ready := (s.answered_ready_iff p a).mpr ⟨admitted, running, released⟩
  have still : (s.updatePort p fun port => port.answer a).ports[p].link.waiting = some q := by
    rw [s.updatePort_same p]; exact waiting
  rw [State.answer, State.tryTake_of_ready still ready, State.updatePort_same, s.updatePort_same p]
  rfl

/-- With no request waiting, or a port that is not READY, the answer is the whole event. -/
theorem State.answer_port_of_not_taken
    (none : s.ports[p].link.waiting = none ∨ s.ports[p].gate = .suspended ∨
      s.chip.mode ≠ .running ∨ s.chip.resetHeld = true) (a : LinkAnswer) :
    (s.answer p a).ports[p] = s.ports[p].answer a := by
  have same : s.answer p a = s.updatePort p fun port => port.answer a := by
    rcases none with none | busy
    · refine State.tryTake_of_no_request ?_
      rw [s.updatePort_same p]
      exact none
    · refine State.tryTake_of_not_ready ?_
      rw [s.answered_ready_iff p a]
      rintro ⟨admitted, running, released⟩
      rcases busy with suspended | stopped | held
      · exact nomatch suspended.symm.trans admitted
      · exact stopped running
      · exact nomatch held.symm.trans released
  rw [same, s.updatePort_same p]

/-- An answer changes its port alone. -/
theorem State.answer_eq_putPort (s : State) (p : PortId) (a : LinkAnswer) :
    s.answer p a = putPort s p (s.answer p a).ports[p] := by
  unfold State.answer
  rcases State.tryTake_cases (s.updatePort p fun port => port.answer a) p with
    ⟨eq, _⟩ | ⟨_, _, _, eq⟩ <;> rw [eq] <;> simp [State.updatePort]

/-! ## An append with its answer (R115) -/

/-- An append with its answer changes the queue and the port alone. -/
theorem State.appendAndAnswer_eq (s : State) (p : PortId) (record : FaultRecord) :
    s.appendAndAnswer p record =
      { s with
        faults := s.faults.append record
        ports := s.ports.set p (s.appendAndAnswer p record).ports[p] } :=
  State.answer_eq_putPort { s with faults := s.faults.append record } p _

/-! ## POP FAULT (R118, R119) -/

theorem performPopFault_of_empty (empty : s.faults.records = []) (params : ParamWords) :
    performPopFault params s = performedFail s .queueEmpty := by
  simp only [performPopFault, empty]

/-- With no port stalled, the head leaves the queue and nothing else happens. -/
theorem performPopFault_of_none_stalled {head : QueuedFault} {rest : List QueuedFault}
    (records : s.faults.records = head :: rest) (none : s.faults.stalled = [])
    (params : ParamWords) :
    performPopFault params s =
      ⟨{ s with faults := { s.faults with records := rest } }, .ok, faultWords head⟩ := by
  simp only [performPopFault, records, State.handOff, none]

/-- The port that stalled first gets the room that the head leaves. -/
theorem performPopFault_of_stalled {head : QueuedFault} {rest : List QueuedFault} {q : PortId}
    {record : FaultRecord} {others : List (PortId × FaultRecord)}
    (records : s.faults.records = head :: rest) (stalled : s.faults.stalled = (q, record) :: others)
    (params : ParamWords) :
    performPopFault params s =
      ⟨State.settle (State.appendAndAnswer
        { s with faults := { s.faults with records := rest, stalled := others } } q record),
        .ok, faultWords head⟩ := by
  simp only [performPopFault, records, State.handOff, stalled]

end Sys2Proof.Machine

namespace Sys2Proof.Proofs

open Sys2Proof.Machine Sys2Proof.Statements

/-- Settles O56: the command taken from the queue runs on the same traffic, and every command keeps the
laws of the fault queue. -/
theorem faultQueueLaws : Obligations.FaultQueueLaws := by
  intro s t h e
  unfold step at e
  split at e
  · cases e; exact h
  · next c rest _ =>
    exact State.FaultsLawful.exec (s := { s with pending := rest }) (h.of_traffic rfl) e

/-- Settles O29: with room the record is appended and the port answered, which may take a request;
without, the port stalls. -/
theorem appendOrStall : Obligations.AppendOrStall := by
  intro s p r record
  rcases s.decideFault_cases p r record with ⟨room, eq⟩ | ⟨full, eq⟩
  · refine ⟨_, _, eq.trans (congrArg State.settle (s.appendAndAnswer_eq p record)),
      fun _ => ⟨rfl, fun q waiting admitted running released => ?_, fun none => ?_⟩,
      fun full => absurd room (Nat.not_lt.mpr full)⟩
    · exact State.answer_port_of_taken (s := { s with faults := s.faults.append record })
        waiting admitted running released _
    · exact State.answer_port_of_not_taken (s := { s with faults := s.faults.append record })
        none _
  · exact ⟨_, _, eq, fun room => absurd room (Nat.not_lt.mpr full), fun _ => ⟨rfl, rfl⟩⟩

/-- Settles O30: the queue empty, no port stalled, or the room handed to the port that stalled
first. -/
theorem popFault : Obligations.PopFault := by
  intro s taken
  refine ⟨fun empty => ?_, fun head rest records =>
    ⟨fun none => ?_, fun q record others stalled => ?_⟩⟩
  · exact congrArg Host.Outcome.next
      (s.performCommand_ends taken (performPopFault_of_empty empty _))
  · exact congrArg Host.Outcome.next
      (s.performCommand_ends taken (performPopFault_of_none_stalled records none _))
  · exact congrArg Host.Outcome.next
      (s.performCommand_ends taken (performPopFault_of_stalled records stalled _))

end Sys2Proof.Proofs
end

section
/-! PROOFS. The standing of the part: what the laws of waiting speak of (R35, R36, R131, R182), and the
events that leave it as it is. -/

namespace Sys2Proof.Machine

open Sys2Proof

variable (s : State)

/-- What the laws of waiting see of a port. -/
def Port.standing (port : Port) : Option ContextId × Gate × Burst × Option Request :=
  (port.binding, port.gate, port.burst, port.link.waiting)

/-- What the laws of waiting speak of: the bindings, gates, bursts and waiting requests of P0 to P5,
ENGINE STATE, the mode and the reset input. -/
structure Standing where
  ports : Vector (Option ContextId × Gate × Burst × Option Request) 6
  engine : EngineState
  mode : Mode
  resetHeld : Bool

/-- The standing of a state. -/
def State.standing (s : State) : Standing :=
  ⟨s.ports.map Port.standing, s.engine.state, s.chip.mode, s.chip.resetHeld⟩

theorem State.port_of_standing {s u : State} (same : u.standing = s.standing) (p : PortId) :
    u.ports[p].binding = s.ports[p].binding ∧ u.ports[p].gate = s.ports[p].gate ∧
      u.ports[p].burst = s.ports[p].burst ∧
      u.ports[p].link.waiting = s.ports[p].link.waiting := by
  have ports := congrArg (·.ports[p]) same
  simpa only [State.standing, Port.standing, Fin.getElem_fin, Vector.getElem_map,
    Prod.mk.injEq] using ports

/-- A change of the ports that leaves the standing of each as it is. -/
theorem State.standing_of_ports {s : State} {ports : Vector Port 6}
    (same : ∀ p : PortId, ports[p].standing = s.ports[p].standing) :
    State.standing { s with ports } = s.standing := by
  have views : ports.map Port.standing = s.ports.map Port.standing :=
    Vector.ext fun i hi => by simpa using same ⟨i, hi⟩
  simp only [State.standing, views]

/-! ## Updates of the state -/

theorem State.updatePort_standing (p : PortId) (f : Port → Port)
    (keeps : (f s.ports[p]).standing = s.ports[p].standing) :
    (s.updatePort p f).standing = s.standing := by
  refine State.standing_of_ports fun q => ?_
  rw [← State.updatePort_ports, State.updatePort_get]
  split
  · next same => subst same; exact keeps
  · rfl

theorem State.removeCopies_standing (i : Nat) (except : Option PortId) :
    (s.removeCopies i except).standing = s.standing := by
  refine State.standing_of_ports fun q => ?_
  have now := s.removeCopies_get i except q
  rw [State.removeCopies] at now
  rw [now]
  split <;> rfl

theorem State.receiveWords_standing (p : PortId) (pos : Nat) (words : List Word) :
    (s.receiveWords p pos words).standing = s.standing :=
  s.updatePort_standing p _ rfl

theorem State.placePortCopy_standing (p : PortId) (c : Copy) :
    (s.placePortCopy p c).standing = s.standing :=
  s.updatePort_standing p _ rfl

theorem State.takeCommand_standing (busy : CommandStatus) :
    (s.takeCommand busy).standing = s.standing := by
  rcases s.takeCommand_cases busy with eq | eq | ⟨_, _, eq⟩ <;> rw [eq] <;> rfl

/-! ## Store accesses and the watch compare -/

theorem State.plainRead_standing (i : Nat) : (s.plainRead i).standing = s.standing := by
  unfold State.plainRead
  split <;> rfl

theorem State.storeWrite_standing (i : Nat) (fields : Fields) (check : Check) :
    (s.storeWrite i fields check).standing = s.standing :=
  State.removeCopies_standing _ i none

theorem State.writeRunEntry_standing (t : Transfer) (fields : Fields) :
    (s.writeRunEntry t fields).standing = s.standing :=
  s.storeWrite_standing _ fields .good

theorem State.dumpAccess_standing (clear : Bool) (i : Nat) :
    (s.dumpAccess clear i).standing = s.standing := by
  unfold State.dumpAccess State.readAndClear
  repeat' split
  · rfl
  · exact s.storeWrite_standing i _ .good
  · rfl
  · exact s.plainRead_standing i

theorem State.readAndMark_standing (p : PortId) (i page : Nat) (direction : Direction) :
    (s.readAndMark p i page direction).standing = s.standing := by
  rcases State.readAndMark_cases p page direction (s := s) (i := i) rfl with
    ⟨_, eq⟩ | ⟨_, _, eq⟩ | ⟨_, _, _, eq⟩ | ⟨_, _, eq⟩ <;> rw [eq]
  · rfl
  · exact s.placePortCopy_standing p _
  · exact (State.placePortCopy_standing _ p _).trans (State.removeCopies_standing _ i (some p))

theorem State.lookup_standing (p : PortId) (i page : Nat) (direction : Direction) :
    (s.lookup p i page direction).standing = s.standing := by
  unfold State.lookup
  split
  · exact s.updatePort_standing p _ rfl
  · exact s.readAndMark_standing p i page direction

theorem State.noteMatches_standing (p : PortId) (direction : Direction) (segs : Segments) :
    (s.noteMatches p direction segs).standing = s.standing := by
  unfold State.noteMatches
  split <;> rfl

/-! ## Performances -/

theorem performDefineContext_standing (params : ParamWords) :
    (performDefineContext params s).state.standing = s.standing := by
  rcases performDefineContext_cases params s with eq | ⟨_, _, _, _, _, _, _, _, eq⟩ <;> rw [eq]
  rfl

theorem performDeleteContext_standing (params : ParamWords) :
    (performDeleteContext params s).state.standing = s.standing := by
  rcases performDeleteContext_cases s params with eq | ⟨_, _, _, _, eq⟩ <;> rw [eq]
  rfl

theorem performReadContext_standing (params : ParamWords) :
    (performReadContext params s).state.standing = s.standing := by
  unfold performReadContext
  split <;> rfl

theorem performEntryWrite_standing (check : Check) (params : ParamWords) :
    (performEntryWrite check params s).state.standing = s.standing := by
  unfold performEntryWrite
  repeat' split
  · rfl
  · rfl
  · exact s.storeWrite_standing _ _ check

theorem performProbe_standing (params : ParamWords) :
    (performProbe params s).state.standing = s.standing := by
  unfold performProbe
  split
  · rfl
  · exact s.plainRead_standing _

theorem performReadPort_standing (params : ParamWords) :
    (performReadPort params s).state.standing = s.standing :=
  withPort_keeps (P := fun t => t.standing = s.standing) s rfl fun _ => rfl

theorem performFlushPort_standing (params : ParamWords) :
    (performFlushPort params s).state.standing = s.standing :=
  withPort_keeps (P := fun t => t.standing = s.standing) s rfl fun p =>
    s.updatePort_standing p _ rfl

theorem performSetWindow_standing (params : ParamWords) :
    (performSetWindow params s).state.standing = s.standing := by
  unfold performSetWindow
  repeat' split
  all_goals rfl

theorem performReadWindow_standing (params : ParamWords) :
    (performReadWindow params s).state.standing = s.standing := by
  unfold performReadWindow
  split <;> rfl

theorem performSetFrameLimit_standing (params : ParamWords) :
    (performSetFrameLimit params s).state.standing = s.standing := by
  unfold performSetFrameLimit
  repeat' split
  all_goals rfl

end Sys2Proof.Machine
end

section
/-! PROOFS. The laws of waiting (R36, R131, R182): the laws that hold while an event goes on and those it
completes, and the operations on ports, the engine and the memory port that keep them. -/

namespace Sys2Proof.Machine

open Sys2Proof

variable {s u : State} {p : PortId} {later : List PortId}

/-! ## The conditions in the laws -/

/-- A request waits on the link of a port that would show READY in RUNNING (R35, R36). -/
def Port.offers (port : Port) : Prop :=
  port.link.waiting.isSome = true ∧ port.gate = .admitted ∧ port.burst = .idle

theorem State.drainHeld_iff {c : ContextId} :
    s.drainHeld c = true ↔
      ∃ q : PortId, s.ports[q].binding = some c ∧ s.ports[q].burst.holdsDrain = true := by
  simp [State.drainHeld, mem_allPorts]

theorem Burst.ne_idle_of_holdsDrain {b : Burst} (holds : b.holdsDrain = true) : b ≠ .idle := by
  rintro rfl
  cases holds

theorem State.not_atRest_of_burst (busy : s.ports[p].burst ≠ .idle) : s.atRest = false :=
  Bool.not_eq_true _ ▸ fun rest => by
    obtain ⟨idle, _⟩ := State.atRest_iff.mp rest
    exact busy (idle p)

theorem State.not_atRest_of_engine (busy : s.engine.state ≠ .idle) : s.atRest = false :=
  Bool.not_eq_true _ ▸ fun rest => by
    obtain ⟨_, idle⟩ := State.atRest_iff.mp rest
    exact busy idle

/-- The rest condition, when no burst and not ENGINE STATE goes to IDLE or leaves it. -/
theorem State.atRest_congr
    (bursts : ∀ q : PortId, u.ports[q].burst = .idle ↔ s.ports[q].burst = .idle)
    (engine : u.engine.state = .idle ↔ s.engine.state = .idle) : u.atRest = s.atRest := by
  rw [Bool.eq_iff_iff, State.atRest_iff, State.atRest_iff]
  exact and_congr (forall_congr' bursts) engine

theorem State.atRest_of_standing (same : u.standing = s.standing) : u.atRest = s.atRest := by
  have engine : u.engine.state = s.engine.state := congrArg Standing.engine same
  refine State.atRest_congr (fun q => ?_) (by rw [engine])
  obtain ⟨_, _, burst, _⟩ := State.port_of_standing same q
  rw [burst]

/-! ## The laws while an event goes on, and at its end -/

/-- The laws of waiting that hold at every moment of an event: a drain is that of a fenced transfer, a
QUIET part is at rest, and a request that could be taken has been, but on the links whose take is still
to come in the event. -/
structure State.Orderly (s : State) (later : List PortId) : Prop where
  fenced : ∀ t, s.engine.state = .draining t → t.fence = true
  quiet : s.chip.mode = .quiet → s.atRest = true
  taken : s.chip.mode = .running → s.chip.resetHeld = false →
    ∀ q : PortId, q ∉ later → ¬ s.ports[q].offers

/-- With the drain and the quiesce that the event may complete: the laws of waiting less that of the
reset input. -/
structure State.Settled (s : State) (later : List PortId) : Prop extends s.Orderly later where
  drained : ∀ t, s.engine.state = .draining t → s.drainHeld t.context = true
  busy : s.chip.mode = .quiescing → s.atRest = false

theorem State.not_offers_iff (q : PortId) :
    (s.chip.mode = .running → s.chip.resetHeld = false → ¬ s.ports[q].offers) ↔
      (s.ports[q].link.waiting.isSome = true → s.ready q = false) := by
  rw [← Bool.not_eq_true (s.ready q), State.ready_iff, Port.offers]
  tauto

theorem State.drainLawful_iff :
    s.drainLawful ↔
      ∀ t, s.engine.state = .draining t → t.fence = true ∧ s.drainHeld t.context = true := by
  cases state : s.engine.state <;> simp [State.drainLawful, state]

theorem State.waitingLawful_iff :
    s.WaitingLawful ↔ s.Settled [] ∧ (s.chip.resetHeld = true → s.heldAtReset) := by
  constructor
  · intro h
    have drain := State.drainLawful_iff.mp h.drain
    exact ⟨⟨⟨fun t draining => (drain t draining).left, h.quiet, fun running released q _ =>
      (State.not_offers_iff q).mpr (h.ready q) running released⟩,
      fun t draining => (drain t draining).right, h.quiescing⟩, h.held⟩
  · intro ⟨h, held⟩
    exact ⟨State.drainLawful_iff.mpr fun t draining => ⟨h.fenced t draining, h.drained t draining⟩,
      h.busy, h.quiet, fun q => (State.not_offers_iff q).mp fun running released =>
        h.taken running released q List.not_mem_nil, held⟩

/-- The laws speak of the standing alone. -/
theorem State.Orderly.of_standing (h : s.Orderly later) (same : u.standing = s.standing) :
    u.Orderly later := by
  have engine : u.engine.state = s.engine.state := congrArg Standing.engine same
  have mode : u.chip.mode = s.chip.mode := congrArg Standing.mode same
  have reset : u.chip.resetHeld = s.chip.resetHeld := congrArg Standing.resetHeld same
  constructor
  case fenced => rw [engine]; exact h.fenced
  case quiet => rw [mode, State.atRest_of_standing same]; exact h.quiet
  case taken =>
    intro running released q seen
    obtain ⟨_, gate, burst, waiting⟩ := State.port_of_standing same q
    rw [Port.offers, gate, burst, waiting]
    exact h.taken (mode ▸ running) (reset ▸ released) q seen

theorem State.Settled.of_standing (h : s.Settled later) (same : u.standing = s.standing) :
    u.Settled later := by
  have engine : u.engine.state = s.engine.state := congrArg Standing.engine same
  have mode : u.chip.mode = s.chip.mode := congrArg Standing.mode same
  refine ⟨h.toOrderly.of_standing same, fun t draining => ?_, ?_⟩
  · obtain ⟨q, bound, holds⟩ := State.drainHeld_iff.mp (h.drained t (engine ▸ draining))
    obtain ⟨binding, _, burst, _⟩ := State.port_of_standing same q
    exact State.drainHeld_iff.mpr ⟨q, binding.trans bound, burst ▸ holds⟩
  · rw [mode, State.atRest_of_standing same]
    exact h.busy

/-! ## Ports -/

theorem State.Orderly.mode_of_burst (h : s.Orderly later) (busy : s.ports[p].burst ≠ .idle) :
    s.chip.mode ≠ .quiet := fun quiet =>
  Bool.false_ne_true ((State.not_atRest_of_burst busy).symm.trans (h.quiet quiet))

theorem State.Orderly.mode_of_engine (h : s.Orderly later) (busy : s.engine.state ≠ .idle) :
    s.chip.mode ≠ .quiet := fun quiet =>
  Bool.false_ne_true ((State.not_atRest_of_engine busy).symm.trans (h.quiet quiet))

/-- A port whose link offers nothing needs no take. -/
theorem State.Orderly.seen (h : s.Orderly (p :: later))
    (none : s.chip.mode = .running → s.chip.resetHeld = false → ¬ s.ports[p].offers) :
    s.Orderly later := by
  refine ⟨h.fenced, h.quiet, fun running released q seen => ?_⟩
  by_cases same : q = p
  · subst same; exact none running released
  · exact h.taken running released q fun mem => (List.mem_cons.mp mem).elim same seen

/-- A port's burst may change to no other than IDLE while QUIET; its take is still to come. -/
theorem State.Orderly.updatePort {f : Port → Port} (h : s.Orderly later)
    (quiet : s.chip.mode = .quiet → (f s.ports[p]).burst = .idle) :
    (s.updatePort p f).Orderly (p :: later) := by
  refine ⟨h.fenced, fun now => ?_, fun running released q seen => ?_⟩
  · obtain ⟨idle, engine⟩ := State.atRest_iff.mp (h.quiet now)
    refine State.atRest_iff.mpr ⟨fun q => ?_, engine⟩
    rw [State.updatePort_get]
    split
    · next same => subst same; exact quiet now
    · exact idle q
  · obtain ⟨other, seen⟩ := List.ne_and_not_mem_of_not_mem_cons seen
    rw [s.updatePort_other p q f (Ne.symm other)]
    exact h.taken running released q seen

theorem State.Orderly.setBurst {burst : Burst} (h : s.Orderly later) (was : s.chip.mode ≠ .quiet)
    (busy : burst ≠ .idle) : (s.setBurst p burst).Orderly later := by
  have changed : (s.setBurst p burst).Orderly (p :: later) :=
    h.updatePort fun quiet => absurd quiet was
  refine changed.seen fun _ _ offers => ?_
  obtain ⟨_, _, idle⟩ := offers
  rw [State.setBurst_get, if_pos rfl] at idle
  exact busy idle

/-- The take leaves no request that could be taken on the link. -/
theorem State.Orderly.tryTake (h : s.Orderly (p :: later)) : (s.tryTake p).Orderly later := by
  rcases s.tryTake_cases p with ⟨eq, idle⟩ | ⟨r, _, ready, eq⟩ <;> rw [eq]
  · refine h.seen ((State.not_offers_iff p).mpr fun waiting => ?_)
    exact idle.resolve_left fun none => by rw [none] at waiting; cases waiting
  · obtain ⟨_, _, running, _⟩ := (s.ready_iff p).mp ready
    have taken : (s.updatePort p fun port => port.take r).Orderly (p :: p :: later) :=
      h.updatePort fun quiet => nomatch running.symm.trans quiet
    have none : ¬ (s.updatePort p fun port => port.take r).ports[p].offers := fun ⟨waiting, _⟩ => by
      rw [s.updatePort_same p] at waiting; cases waiting
    exact (taken.seen fun _ _ => none).seen fun _ _ => none

theorem State.Orderly.answer (h : s.Orderly []) (p : PortId) (a : LinkAnswer) :
    (s.answer p a).Orderly [] :=
  State.Orderly.tryTake (h.updatePort (f := fun port => port.answer a) fun _ => rfl)

/-! ## What settles an event (R131, R182) -/

theorem State.Orderly.reachQuiet (h : s.Orderly [])
    (drained : ∀ t, s.engine.state = .draining t → s.drainHeld t.context = true) :
    s.reachQuiet.Settled [] := by
  rcases s.reachQuiet_cases with ⟨eq, busy⟩ | ⟨_, rest, eq⟩ <;> rw [eq]
  · exact ⟨h, drained, busy⟩
  · exact ⟨⟨h.fenced, fun _ => rest, nofun⟩, drained, nofun⟩

theorem State.Orderly.setEngineState {e : EngineState} (h : s.Orderly later)
    (quiet : s.chip.mode = .quiet → e = .idle) (fenced : ∀ t, e = .draining t → t.fence = true) :
    (s.setEngineState e).Orderly later := by
  refine ⟨fenced, fun now => ?_, h.taken⟩
  obtain ⟨idle, _⟩ := State.atRest_iff.mp (h.quiet now)
  exact State.atRest_iff.mpr ⟨idle, quiet now⟩

/-- A drain goes on only while a burst holds it. -/
theorem State.Orderly.endDrain (h : s.Orderly later) :
    s.endDrain.Orderly later ∧
      ∀ t, s.endDrain.engine.state = .draining t → s.endDrain.drainHeld t.context = true := by
  rcases s.endDrain_cases with ⟨eq, drained⟩ | ⟨t, draining, _, eq⟩ <;> rw [eq]
  · exact ⟨h, drained⟩
  · have busy := h.mode_of_engine (by rw [draining]; nofun)
    exact ⟨h.setEngineState (fun quiet => absurd quiet busy) nofun, nofun⟩

theorem State.Orderly.settle (h : s.Orderly []) : s.settle.Settled [] := by
  obtain ⟨orderly, drained⟩ := h.endDrain
  exact orderly.reachQuiet drained

/-! ## Faults (R115, R119) -/

theorem State.Orderly.appendAndAnswer (h : s.Orderly []) (p : PortId) (record : FaultRecord) :
    (s.appendAndAnswer p record).Orderly [] := by
  have appended : State.Orderly { s with faults := s.faults.append record } [] := h.of_standing rfl
  exact appended.answer p _

theorem State.Orderly.decideFault (h : s.Orderly []) (busy : s.chip.mode ≠ .quiet) (p : PortId)
    (r : CurrentRequest) (record : FaultRecord) : (s.decideFault p r record).Settled [] := by
  rcases s.decideFault_cases p r record with ⟨_, eq⟩ | ⟨_, eq⟩ <;> rw [eq]
  · exact (h.appendAndAnswer p record).settle
  · have listed : State.Orderly { s with
        faults := { s.faults with stalled := s.faults.stalled ++ [(p, record)] } } [] :=
      h.of_standing rfl
    have stalled : (s.stall p r record).Orderly [] := listed.setBurst busy nofun
    exact stalled.settle

theorem State.Settled.handOff (h : s.Settled []) : s.handOff.Settled [] := by
  rcases s.handOff_cases with ⟨eq, _⟩ | ⟨p, record, rest, _, eq⟩ <;> rw [eq]
  · exact h
  · have listed : State.Orderly { s with faults := { s.faults with stalled := rest } } [] :=
      h.toOrderly.of_standing rfl
    exact (listed.appendAndAnswer p record).settle

/-! ## Changes that leave nothing to settle -/

theorem State.Settled.seen (h : s.Settled (p :: later))
    (none : s.chip.mode = .running → s.chip.resetHeld = false → ¬ s.ports[p].offers) :
    s.Settled later :=
  ⟨h.toOrderly.seen none, h.drained, h.busy⟩

/-- A port that goes on holding the drain of its context, and that goes to IDLE or leaves it in RUNNING
alone, completes no drain and no quiesce. -/
theorem State.Settled.updatePort {f : Port → Port} (h : s.Settled later)
    (drain : s.ports[p].burst.holdsDrain = true →
      (f s.ports[p]).binding = s.ports[p].binding ∧ (f s.ports[p]).burst.holdsDrain = true)
    (rest : s.chip.mode ≠ .running → ((f s.ports[p]).burst = .idle ↔ s.ports[p].burst = .idle)) :
    (s.updatePort p f).Settled (p :: later) := by
  refine ⟨h.toOrderly.updatePort fun quiet => ?_, fun t draining => ?_, fun quiescing => ?_⟩
  · obtain ⟨idle, _⟩ := State.atRest_iff.mp (h.quiet quiet)
    exact (rest (by rw [quiet]; nofun)).mpr (idle p)
  · obtain ⟨q, bound, holds⟩ := State.drainHeld_iff.mp (h.drained t draining)
    refine State.drainHeld_iff.mpr ⟨q, ?_⟩
    rw [State.updatePort_get]
    split
    · next same =>
      subst same
      obtain ⟨binding, still⟩ := drain holds
      exact ⟨binding.trans bound, still⟩
    · exact ⟨bound, holds⟩
  · have still : s.chip.mode ≠ .running := fun running => nomatch running.symm.trans quiescing
    refine Eq.trans (State.atRest_congr (s := s) (fun q => ?_) Iff.rfl) (h.busy quiescing)
    rw [State.updatePort_get]
    split
    · next same => subst same; exact rest still
    · rfl

/-- A burst that goes on to hold the drain. -/
theorem State.Settled.setBurst {burst : Burst} (h : s.Settled later)
    (was : s.ports[p].burst ≠ .idle) (holds : burst.holdsDrain = true) :
    (s.setBurst p burst).Settled later := by
  have busy := Burst.ne_idle_of_holdsDrain holds
  have changed : (s.setBurst p burst).Settled (p :: later) :=
    h.updatePort (fun _ => ⟨rfl, holds⟩) fun _ => iff_of_false busy was
  exact ⟨h.toOrderly.setBurst (h.mode_of_burst was) busy, changed.drained, changed.busy⟩

theorem State.Settled.tryTake (h : s.Settled (p :: later)) : (s.tryTake p).Settled later := by
  have orderly := h.toOrderly.tryTake
  rcases s.tryTake_cases p with ⟨eq, _⟩ | ⟨r, _, ready, eq⟩ <;> rw [eq] at orderly ⊢
  · exact ⟨orderly, h.drained, h.busy⟩
  · obtain ⟨_, _, running, _⟩ := (s.ready_iff p).mp ready
    have taken : (s.updatePort p fun port => port.take r).Settled (p :: p :: later) :=
      h.updatePort (fun _ => ⟨rfl, rfl⟩) fun other => absurd running other
    exact ⟨orderly, taken.drained, taken.busy⟩

theorem State.Settled.foldTake {ports : List PortId} (h : s.Settled ports) :
    (ports.foldl (fun t p => t.tryTake p) s).Settled [] := by
  induction ports generalizing s with
  | nil => exact h
  | cons p rest ih => exact ih h.tryTake

/-- A transfer in RUNNING drains nothing and is not at rest. -/
theorem State.Settled.setRunning (h : s.Settled later) (busy : s.engine.state ≠ .idle) (t : Transfer)
    (w : Work) : (s.setEngineState (.running t w)).Settled later := by
  have mode := h.mode_of_engine busy
  exact ⟨h.toOrderly.setEngineState (fun quiet => absurd quiet mode) nofun, nofun,
    fun _ => State.not_atRest_of_engine nofun⟩

/-- The grant leaves a burst of the drain and a transfer in RUNNING what they are (R100). -/
theorem State.Settled.grant (h : s.Settled later) : s.grant.Settled later := by
  rcases s.grant_cases with ⟨eq, _⟩ | ⟨q, _, _, requests, eq⟩ <;> rw [eq]
  · exact h
  · cases q with
    | port p =>
      obtain ⟨r, segs, queued⟩ := (Burst.isQueued_iff _).mp requests
      rw [s.grantTo_port p r segs queued]
      exact State.Settled.setBurst (h.of_standing rfl) (by rw [queued]; nofun) rfl
    | engine =>
      obtain ⟨t, w, running, _⟩ := (EngineState.isRequesting_iff _).mp requests
      rw [s.grantTo_engine t w running]
      have issued : State.Settled { s with
          memory := s.memory.issue .engine (chunkTransaction t w s.engine.outcome.done) } later :=
        h.of_standing rfl
      exact issued.setRunning (by rw [running]; nofun) t _

theorem State.Settled.freeMemory (h : s.Settled later) : s.freeMemory.Settled later :=
  h.of_standing rfl

end Sys2Proof.Machine
end

section
/-! PROOFS. Bursts, transfers, commands and resets against the laws of waiting, the reset values that the
held reset input keeps (R184), and that every step keeps the laws. -/

namespace Sys2Proof.Machine

open Sys2Proof

variable {s u : State} {p : PortId}

/-! ## Translation (chapter 4) and the watch compare (chapter 9) -/

theorem State.Settled.splitPages (h : s.Settled []) (was : s.ports[p].burst ≠ .idle)
    (c : ContextId) (r : CurrentRequest) : (s.splitPages p c r).Settled [] := by
  unfold State.splitPages
  split
  · exact h.decideFault (h.mode_of_burst was) p r _
  · exact h.setBurst was rfl

theorem State.Settled.openBurst (h : s.Settled []) (was : s.ports[p].burst ≠ .idle)
    (r : CurrentRequest) : (s.openBurst p r).Settled [] := by
  have mode := h.mode_of_burst was
  unfold State.openBurst
  split
  · exact h.decideFault mode p r _
  · next c _ =>
    split
    · exact h.decideFault mode p r _
    · unfold State.fenceCheck
      split
      · have fenced : (s.setBurst p (.fenced r)).Orderly [] := h.toOrderly.setBurst mode nofun
        exact fenced.settle
      · exact h.splitPages was c r

theorem State.Settled.watchCompare (h : s.Settled []) (was : s.ports[p].burst ≠ .idle)
    (r : CurrentRequest) (segs : Segments) : (s.watchCompare p r segs).Settled [] := by
  unfold State.watchCompare
  split
  · have noted : ((s.noteMatches p r.direction segs).recordHits p r segs).Settled [] :=
      h.of_standing (s.noteMatches_standing p r.direction segs)
    refine (noted.setBurst ?_ rfl).grant
    rw [State.recordHits_ports, State.noteMatches_ports]
    exact was
  · have hits : (s.recordHits p r segs).Settled [] := h.of_standing rfl
    exact hits.setBurst was rfl

theorem State.Settled.passPage (h : s.Settled []) (was : s.ports[p].burst ≠ .idle)
    (c : ContextId) (r : CurrentRequest) (walk : Walk) (result : PageResult) :
    (s.passPage p c r walk result).Settled [] := by
  unfold State.passPage
  split
  · split
    · exact h.decideFault (h.mode_of_burst was) p r _
    · exact h.setBurst was rfl
  · exact h.watchCompare was r _

theorem State.Settled.lookupPage (h : s.Settled []) (was : s.ports[p].burst ≠ .idle)
    (c : ContextId) (r : CurrentRequest) (walk : Walk) : (s.lookupPage p c r walk).Settled [] := by
  have same := s.lookup_standing p (s.contexts[c].base + r.pageAt walk.currentPage)
    (r.pageAt walk.currentPage) r.direction
  have after := h.of_standing same
  obtain ⟨_, _, burst, _⟩ := State.port_of_standing same p
  rw [← burst] at was
  unfold State.lookupPage
  dsimp only
  split
  · exact after.decideFault (after.mode_of_burst was) p r _
  · exact after.passPage was c r walk _

/-! ## Answers to a port's transactions (R102, R106) -/

theorem State.Settled.finishBurst (h : s.Settled []) (p : PortId) (r : CurrentRequest) :
    (s.finishBurst p r).Settled [] :=
  (h.freeMemory.answer p _).settle.grant

theorem State.Settled.answerSegment (h : s.Settled []) (was : s.ports[p].burst ≠ .idle)
    (r : CurrentRequest) (segs : Segments) (which : PageIndex) (answer : MemoryAnswer) :
    (s.answerSegment p r segs which answer).Settled [] := by
  cases answer with
  | error => exact (h.freeMemory.decideFault (h.mode_of_burst was) p r _).grant
  | ok words =>
    have received := h.of_standing (s.receiveWords_standing p (bufferPosition segs which) words)
    unfold State.answerSegment
    dsimp only
    split
    · exact received.of_standing rfl
    · exact received.finishBurst p r
    · exact received.finishBurst p r

/-! ## The start and the end of a transfer (R130, R141) -/

/-- A transfer starts in RUNNING alone; a fenced one drains while a burst holds it. -/
theorem State.Settled.startTransfer (h : s.Settled []) (running : s.chip.mode = .running)
    (t : Transfer) : (s.startTransfer t).Settled [] := by
  have mode : (s.startTransfer t).chip.mode = .running := by rw [State.startTransfer_chip, running]
  have started {e : EngineState} (fenced : ∀ t, e = .draining t → t.fence = true) {v : State}
      (same : v.standing = (s.setEngineState e).standing) : v.Orderly [] := by
    refine State.Orderly.of_standing (s := s.setEngineState e) ?_ same
    exact h.toOrderly.setEngineState (fun quiet => nomatch running.symm.trans quiet) fenced
  obtain ⟨orderly, drained⟩ : (s.startTransfer t).Orderly [] ∧
      ∀ t', (s.startTransfer t).engine.state = .draining t' →
        (s.startTransfer t).drainHeld t'.context = true := by
    unfold State.startTransfer
    dsimp only
    split
    · next fence =>
      refine State.Orderly.endDrain (started (e := .draining t) ?_ rfl)
      rintro _ ⟨⟩
      exact fence
    · exact ⟨started (e := .running t t.job.initialWork) nofun rfl, nofun⟩
  exact ⟨orderly, drained, fun quiescing => nomatch mode.symm.trans quiescing⟩

/-- The end of a transfer leaves no drain, and reaches QUIET when it completes a quiesce. -/
theorem State.Settled.endTransfer (h : s.Settled []) (result : OutcomeState) :
    (s.endTransfer result).Settled [] := by
  cases progress : s.engine.state.transfer with
  | none => simpa only [State.endTransfer, progress] using h
  | some t =>
    have ended : (s.setEngineState .idle).Orderly [] :=
      h.toOrderly.setEngineState (fun _ => rfl) nofun
    rw [s.endTransfer_of result t progress]
    exact State.Orderly.reachQuiet (ended.of_standing rfl) nofun

theorem State.Settled.endWithError (h : s.Settled []) (start : Word) (marksLost : Nat) :
    (s.endWithError start marksLost).Settled [] := by
  have recorded : (s.updateOutcome fun o =>
      { o with marksLost, failingAddress := some start }).Settled [] := h.of_standing rfl
  exact recorded.endTransfer .memoryError

/-! ## The transfer's own events (chapter 8) -/

theorem State.Settled.requestChunk (h : s.Settled []) (busy : s.engine.state ≠ .idle) (t : Transfer)
    (w : Work) : (s.requestChunk t w).Settled [] :=
  (h.setRunning busy t _).grant

theorem State.Settled.answerLoad (h : s.Settled []) (busy : s.engine.state ≠ .idle) (t : Transfer)
    (w : Work) (tr : Transaction) (answer : MemoryAnswer) :
    (s.answerLoad t w tr answer).Settled [] := by
  cases answer with
  | ok words => exact (h.freeMemory.setRunning busy t _).grant
  | error => exact (h.freeMemory.endWithError tr.start 0).grant

theorem State.Settled.acceptDump (h : s.Settled []) (busy : s.engine.state ≠ .idle) (t : Transfer)
    (w : Work) : (s.acceptDump t w).Settled [] := by
  have counted : (s.raiseDone w.chunk.length).Settled [] := h.of_standing rfl
  unfold State.acceptDump
  dsimp only
  split
  · exact counted.endTransfer .complete
  · split
    · exact counted.endTransfer .aborted
    · exact counted.setRunning busy t _

theorem State.Settled.answerDump (h : s.Settled []) (busy : s.engine.state ≠ .idle) (t : Transfer)
    (w : Work) (clear : Bool) (tr : Transaction) (answer : MemoryAnswer) :
    (s.answerDump t w clear tr answer).Settled [] := by
  cases answer with
  | ok words => exact (h.freeMemory.acceptDump busy t w).grant
  | error => exact (h.freeMemory.endWithError tr.start _).grant

theorem State.Settled.continueLoad (h : s.Settled []) (busy : s.engine.state ≠ .idle) (t : Transfer)
    (w : Work) (rest : List ChunkImage) : (s.continueLoad t w rest).Settled [] := by
  unfold State.continueLoad
  split
  · exact h.endTransfer .complete
  · split
    · exact h.requestChunk busy t _
    · exact h.setRunning busy t _

theorem State.Settled.readForDump (h : s.Settled []) (busy : s.engine.state ≠ .idle) (t : Transfer)
    (w : Work) (clear : Bool) : (s.readForDump t w clear).Settled [] := by
  have same := s.dumpAccess_standing clear (s.runIndex t (s.engine.outcome.done + w.chunk.length))
  have still := congrArg Standing.engine same
  have read := h.of_standing same
  unfold State.readForDump
  dsimp only
  split
  · exact read.setRunning (fun idle => busy (still.symm.trans idle)) t _
  · exact read.requestChunk (fun idle => busy (still.symm.trans idle)) t _

theorem State.Settled.abortDump (h : s.Settled []) (busy : s.engine.state ≠ .idle) (t : Transfer)
    (w : Work) : (s.abortDump t w).Settled [] := by
  unfold State.abortDump
  split
  · exact h.setRunning busy t _
  · exact h.setRunning busy t _
  all_goals
    split
    · exact h.endTransfer .aborted
    · exact h.requestChunk busy t _

theorem State.Settled.abort (h : s.Settled []) : s.abort.Settled [] := by
  unfold State.abort
  split
  · exact h
  · exact h.endTransfer .aborted
  · next t w running =>
    split
    · refine State.Settled.endTransfer ?_ .aborted
      split
      · exact h.of_standing rfl
      · exact h
    · exact h.endTransfer .aborted
    · exact h.abortDump (by rw [running]; nofun) t w

/-! ## Performances -/

/-- A port that is IDLE may be bound or released: it holds no drain, and its link offers what it did. -/
theorem State.Settled.rebind {f : Port → Port} (h : s.Settled []) (idle : s.ports[p].burst = .idle)
    (burst : (f s.ports[p]).burst = .idle)
    (offers : (f s.ports[p]).offers → s.ports[p].offers) (c : ContextId) (g : Context → Context) :
    ((s.updatePort p f).updateContext c g).Settled [] := by
  have changed : (s.updatePort p f).Settled [p] :=
    h.updatePort (fun holds => absurd idle (Burst.ne_idle_of_holdsDrain holds))
      fun _ => iff_of_true burst idle
  refine State.Settled.of_standing (changed.seen fun running released now => ?_) rfl
  rw [s.updatePort_same p f] at now
  exact h.taken running released p List.not_mem_nil (offers now)

theorem State.Settled.performBindPort (h : s.Settled []) (params : ParamWords) :
    (performBindPort params s).state.Settled [] := by
  rcases performBindPort_cases s params with eq | ⟨p, c, _, idle, _, eq⟩ <;> rw [eq]
  · exact h
  · exact h.rebind idle idle id c _

theorem State.Settled.performReleasePort (h : s.Settled []) (params : ParamWords) :
    (performReleasePort params s).state.Settled [] := by
  rcases performReleasePort_cases s params with eq | ⟨p, c, _, idle, eq⟩ <;> rw [eq]
  · exact h
  · exact h.rebind idle idle id c _

theorem State.Settled.setGate (h : s.Settled []) (p : PortId) (gate : Gate) :
    (s.setGate p gate).Settled [p] :=
  h.updatePort (fun holds => ⟨rfl, holds⟩) fun _ => Iff.rfl

theorem State.Settled.performSuspendPort (h : s.Settled []) (params : ParamWords) :
    (performSuspendPort params s).state.Settled [] := by
  refine withPort_keeps (P := fun t => t.Settled []) s h fun p => ?_
  refine (h.setGate p .suspended).seen fun _ _ ⟨_, admitted, _⟩ => ?_
  rw [State.setGate, s.updatePort_same p] at admitted
  cases admitted

theorem State.Settled.performAdmitPort (h : s.Settled []) (params : ParamWords) :
    (performAdmitPort params s).state.Settled [] :=
  withPort_keeps (P := fun t => t.Settled []) s h fun p => (h.setGate p .admitted).tryTake

theorem State.Settled.performResumeHeld (h : s.Settled []) (params : ParamWords) :
    (performResumeHeld params s).state.Settled [] := by
  refine withPort_keeps (P := fun t => t.Settled []) s h fun p => ?_
  split
  · next held => exact (h.setBurst (by rw [held]; nofun) rfl).grant
  all_goals exact h

theorem State.Settled.performCancelHeld (h : s.Settled []) (params : ParamWords) :
    (performCancelHeld params s).state.Settled [] := by
  refine withPort_keeps (P := fun t => t.Settled []) s h fun p => ?_
  split
  · next held => exact h.decideFault (h.mode_of_burst (p := p) (by rw [held]; nofun)) p _ _
  all_goals exact h

theorem State.Settled.performPopFault (h : s.Settled []) (params : ParamWords) :
    (performPopFault params s).state.Settled [] := by
  unfold Machine.performPopFault
  split
  · exact h
  · exact State.Settled.handOff (h.of_standing rfl)

theorem State.Settled.performStart (h : s.Settled []) (context firstPage count : Word)
    (fence : Option Bool) (job : Option TransferJob) :
    (performStart context firstPage count fence job s).state.Settled [] := by
  rcases performStart_cases s context firstPage count fence job with
    eq | ⟨t, _, running, _, _, _, _, _, eq⟩ <;> rw [eq]
  · exact h
  · exact h.startTransfer running t

theorem State.Settled.performAbortTransfer (h : s.Settled []) (params : ParamWords) :
    (performAbortTransfer params s).state.Settled [] := by
  unfold Machine.performAbortTransfer
  split
  · exact h
  · exact h.abort

theorem State.Settled.performQuiesce (h : s.Settled []) (params : ParamWords) :
    (performQuiesce params s).state.Settled [] := by
  unfold Machine.performQuiesce
  split
  · have quiescing : (s.setMode .quiescing).Orderly [] := ⟨h.fenced, nofun, nofun⟩
    exact quiescing.reachQuiet h.drained
  · exact h

/-- WAKE makes RUNNING, and then every port its take. -/
theorem State.Settled.performWake (h : s.Settled []) (params : ParamWords) :
    (performWake params s).state.Settled [] := by
  unfold Machine.performWake
  split
  · exact h
  · have running : (s.setMode .running).Settled allPorts :=
      ⟨⟨h.fenced, nofun, fun _ _ q unseen => absurd (mem_allPorts q) unseen⟩, h.drained, nofun⟩
    simpa only [performedOk] using running.foldTake

/-! ## The reset values (R184, R185) -/

theorem Port.atReset_reset (port : Port) : port.reset.atReset := ⟨rfl, rfl, rfl, rfl⟩

theorem Port.atReset_powerOn (port : Port) : port.powerOn.atReset := ⟨rfl, rfl, rfl, rfl⟩

/-- The ports that a reset leaves. -/
theorem atReset_of_ofFn {reset : Port → Port} (values : ∀ port, (reset port).atReset) (s : State)
    (q : PortId) : (Vector.ofFn fun p : PortId => reset s.ports[p])[q].atReset := by
  rw [Fin.getElem_fin, Vector.getElem_ofFn]
  exact values _

/-- Ports at their reset values and the engine IDLE, in RUNNING, wait for nothing. -/
theorem State.Settled.of_reset (ports : ∀ q : PortId, u.ports[q].atReset)
    (engine : u.engine = Engine.initial) (mode : u.chip.mode = .running) : u.Settled [] := by
  have state : u.engine.state = .idle := by rw [engine]; rfl
  refine ⟨⟨fun t draining => (nomatch state.symm.trans draining),
    fun quiet => (nomatch mode.symm.trans quiet), fun _ _ q _ ⟨_, admitted, _⟩ => ?_⟩,
    fun t draining => (nomatch state.symm.trans draining),
    fun quiescing => (nomatch mode.symm.trans quiescing)⟩
  obtain ⟨_, suspended, _⟩ := ports q
  exact nomatch suspended.symm.trans admitted

theorem State.Settled.of_heldAtReset (h : s.heldAtReset) : s.Settled [] := by
  obtain ⟨_, _, ports, _, _, _, engine, _, _, _, _, mode, _⟩ := h
  exact .of_reset ports engine mode

theorem State.softReset_settled (s : State) : s.softReset.Settled [] :=
  .of_reset (atReset_of_ofFn Port.atReset_reset s) rfl rfl

theorem MemoryPort.reset_holder (m : MemoryPort) :
    m.reset.holder = .free ∨ m.reset.holder = .discarding := by
  unfold MemoryPort.reset
  cases m.transaction <;> simp

theorem State.pinReset_heldAtReset (s : State) : s.pinReset.heldAtReset :=
  ⟨rfl, rfl, atReset_of_ofFn Port.atReset_reset s, rfl, s.memory.reset_holder, rfl, rfl, rfl, rfl, rfl,
    rfl, rfl, rfl, Or.inr rfl⟩

theorem powerOn_heldAtReset (s : State) (resetHeld : Bool) (pending : List Instr) :
    State.heldAtReset { State.reset with
      ports := Vector.ofFn fun p : PortId => s.ports[p].powerOn
      chip := { ChipControl.initial with resetHeld }
      pending } :=
  ⟨rfl, rfl, atReset_of_ofFn Port.atReset_powerOn s, rfl, Or.inl rfl, rfl, rfl, rfl, rfl, rfl, rfl, rfl,
    rfl, Or.inl rfl⟩

/-! ## While the reset input is held (R163, R184) -/

section Held

variable (h : s.heldAtReset)
include h

theorem State.burst_of_heldAtReset (q : PortId) : s.ports[q].burst = .idle := by
  obtain ⟨_, _, ports, _⟩ := h
  obtain ⟨_, _, idle, _⟩ := ports q
  exact idle

theorem State.engine_of_heldAtReset : s.engine = Engine.initial := by
  obtain ⟨_, _, _, _, _, _, engine, _⟩ := h
  exact engine

theorem State.status_of_heldAtReset : s.command.status = .idle := by
  obtain ⟨_, _, _, _, _, _, _, _, command, _⟩ := h
  rw [command]; rfl

/-- No port and not the engine requests the memory port. -/
theorem State.requests_of_heldAtReset (q : Requester) : s.requests q = false := by
  cases q with
  | port p => exact congrArg Burst.isQueued (State.burst_of_heldAtReset h p)
  | engine => exact congrArg (fun e : Engine => e.state.isRequesting) (State.engine_of_heldAtReset h)

/-- A port's link belongs to the channel. -/
theorem State.setWaiting_heldAtReset (p : PortId) (waiting : Option Request) :
    (s.setWaiting p waiting).heldAtReset := by
  obtain ⟨store, contexts, ports, rest⟩ := h
  refine ⟨store, contexts, fun q => ?_, rest⟩
  rw [State.setWaiting, State.updatePort_get]
  split
  · exact ports q
  · exact ports q

/-- The answer to the transaction that a reset left ends DISCARDING, and no requester waits. -/
theorem State.freeMemory_grant_heldAtReset : s.freeMemory.grant.heldAtReset := by
  have freed : s.freeMemory.heldAtReset := by
    obtain ⟨store, contexts, ports, pointer, _, rest⟩ := h
    exact ⟨store, contexts, ports, pointer, Or.inl rfl, rest⟩
  rcases s.freeMemory.grant_cases with ⟨eq, _⟩ | ⟨q, _, _, requests, _⟩
  · rw [eq]; exact freed
  · exact nomatch requests.symm.trans (State.requests_of_heldAtReset freed q)

end Held

theorem State.takeCommand_of_held (held : s.chip.resetHeld = true) (busy : CommandStatus) :
    s.takeCommand busy = s :=
  if_pos held

/-- A host command is an ignored write: none is taken, and so none is performed (R163). -/
theorem State.hostCommand_of_held (held : s.chip.resetHeld = true) (idle : s.command.status = .idle)
    (code : BitVec 8) (perform : ParamWords → State → Performed) (event : CommandEvent) :
    s.hostCommand code perform event = s := by
  have none : s.performCommand code perform = s := if_neg (by rw [idle]; nofun)
  cases event with
  | take => exact State.takeCommand_of_held held _
  | perform => exact none
  | whole =>
    unfold State.hostCommand
    dsimp only
    rw [if_pos idle, State.takeCommand_of_held held, none]

/-- Every command leaves the reset values while the reset input is held. -/
theorem State.heldAtReset_exec {i : Instr} (h : s.heldAtReset) (held : s.chip.resetHeld = true)
    (e : exec i s = .next u) : u.heldAtReset := by
  have status := State.status_of_heldAtReset h
  have engine : s.engine.state ≠ .idle → False := fun busy =>
    busy (congrArg Engine.state (State.engine_of_heldAtReset h))
  have burst {q : PortId} : s.ports[q].burst ≠ .idle → False := fun busy =>
    busy (State.burst_of_heldAtReset h q)
  refine exec_next_cases (P := State.heldAtReset) e h ?host ?unknown ?overrun ?param ?acknowledge
    ?enable ?powerOn ?pin ?release ?present ?withdraw ?opening ?lookup ?resume ?segment ?loadChunk
    ?dumpChunk ?late ?discard ?loadBegin ?loadWrite ?fillWrite ?dumpRead ?complete
  case host =>
    intro code perform event _
    rw [State.hostCommand_of_held held status]
    exact h
  case unknown => intro code; rw [State.takeCommand_of_held held]; exact h
  case powerOn => exact powerOn_heldAtReset s s.chip.resetHeld s.pending
  case pin => exact fun _ => s.pinReset_heldAtReset
  case release => exact h
  case present =>
    intro p r _ _
    have waits := State.setWaiting_heldAtReset h p (some r)
    rw [State.tryTake_of_not_ready fun ready => ?_]
    · exact waits
    · obtain ⟨_, _, _, released⟩ := (State.ready_iff _ p).mp ready
      exact nomatch held.symm.trans released
  case withdraw => exact fun p => State.setWaiting_heldAtReset h p none
  case discard => exact fun _ => State.freeMemory_grant_heldAtReset h
  case opening => exact fun p r opening => (burst (q := p) (by rw [opening]; nofun)).elim
  case lookup => exact fun p r walk c walking _ => (burst (q := p) (by rw [walking]; nofun)).elim
  case resume => exact fun p r c fenced _ _ => (burst (q := p) (by rw [fenced]; nofun)).elim
  case segment =>
    exact fun p _ r segs _ _ _ _ moving _ _ => (burst (q := p) (by rw [moving]; nofun)).elim
  case loadChunk =>
    exact fun _ t w _ _ _ _ running _ _ _ _ => (engine (by rw [running]; nofun)).elim
  case dumpChunk =>
    exact fun _ t w _ _ _ _ _ running _ _ _ => (engine (by rw [running]; nofun)).elim
  case late =>
    intro late _
    rw [State.engine_of_heldAtReset h] at late
    cases late
  case loadBegin => exact fun t w _ running _ _ => (engine (by rw [running]; nofun)).elim
  case loadWrite => exact fun t w _ _ _ running _ _ _ => (engine (by rw [running]; nofun)).elim
  case fillWrite => exact fun t w _ running _ => (engine (by rw [running]; nofun)).elim
  case dumpRead => exact fun t w _ _ running _ _ => (engine (by rw [running]; nofun)).elim
  case complete => exact fun _ _ _ performed => nomatch status.symm.trans performed
  case overrun => exact fun _ released => nomatch held.symm.trans released
  case param => exact fun _ _ released => nomatch held.symm.trans released
  case acknowledge => exact fun _ released => nomatch held.symm.trans released
  case enable => exact fun _ released => nomatch held.symm.trans released

/-! ## Every performance, every command, every step -/

theorem State.Settled.performance (h : s.Settled []) :
    ∀ e ∈ hostPerformances, ∀ params, (e.2 params s).state.Settled [] := by
  have same {t : State} (standing : t.standing = s.standing) : t.Settled [] :=
    h.of_standing standing
  simp only [hostPerformances, List.forall_mem_cons]
  exact ⟨fun p => same (performDefineContext_standing s p),
    fun p => same (performDeleteContext_standing s p),
    fun p => same (performReadContext_standing s p),
    fun p => same (performEntryWrite_standing s .good p),
    fun p => same (performEntryWrite_standing s .bad p),
    fun p => same (performProbe_standing s p), h.performBindPort, h.performReleasePort,
    h.performSuspendPort, h.performAdmitPort, fun p => same (performReadPort_standing s p),
    fun p => same (performFlushPort_standing s p), h.performResumeHeld, h.performCancelHeld,
    h.performPopFault, fun _ => h.performStart _ _ _ _ _, fun _ => h.performStart _ _ _ _ _,
    fun _ => h.performStart _ _ _ _ _, h.performAbortTransfer,
    fun p => same (performSetWindow_standing s p), fun p => same (performReadWindow_standing s p),
    h.performQuiesce, h.performWake, fun p => same (performSetFrameLimit_standing s p),
    fun _ => s.softReset_settled, List.forall_mem_nil _⟩

/-- With the reset input released, every command leaves nothing that an event should have completed. -/
theorem State.Settled.exec {i : Instr} (h : s.Settled []) (released : s.chip.resetHeld = false)
    (e : exec i s = .next u) : u.Settled [] := by
  refine exec_next_cases (P := fun t => t.Settled []) e h ?host ?unknown ?overrun ?param ?acknowledge
    ?enable ?powerOn ?pin ?release ?present ?withdraw ?opening ?lookup ?resume ?segment ?loadChunk
    ?dumpChunk ?late ?discard ?loadBegin ?loadWrite ?fillWrite ?dumpRead ?complete
  case host =>
    intro code perform event mem
    exact s.hostCommand_keeps (P := fun t => t.Settled []) code perform event h
      (fun v busy hv => hv.of_standing (v.takeCommand_standing busy))
      fun v hv _ => (hv.performance _ mem _).of_standing rfl
  case unknown => exact fun code => h.of_standing (s.takeCommand_standing _)
  case powerOn => exact .of_heldAtReset (powerOn_heldAtReset s _ _)
  case pin => exact fun _ => .of_heldAtReset s.pinReset_heldAtReset
  case release => exact h.of_standing (by rw [State.standing, State.standing, released])
  case present =>
    intro p r _ _
    have waits : (s.setWaiting p (some r)).Settled [p] :=
      h.updatePort (fun holds => ⟨rfl, holds⟩) fun _ => Iff.rfl
    exact waits.tryTake
  case withdraw =>
    intro p
    have none : (s.setWaiting p none).Settled [p] :=
      h.updatePort (fun holds => ⟨rfl, holds⟩) fun _ => Iff.rfl
    refine none.seen fun _ _ ⟨waiting, _⟩ => ?_
    rw [s.setWaiting_waiting p] at waiting
    cases waiting
  case opening => exact fun p r opening => h.openBurst (p := p) (by rw [opening]; nofun) r
  case lookup =>
    exact fun p r walk c walking _ => h.lookupPage (p := p) (by rw [walking]; nofun) c r walk
  case resume => exact fun p r c fenced _ _ => h.splitPages (p := p) (by rw [fenced]; nofun) c r
  case segment =>
    exact fun p _ r segs which answer _ _ moving _ _ =>
      h.answerSegment (p := p) (by rw [moving]; nofun) r segs which answer
  case loadChunk =>
    exact fun tr t w _ answer _ _ running _ _ _ _ =>
      h.answerLoad (by rw [running]; nofun) t w tr answer
  case dumpChunk =>
    exact fun tr t w _ clear answer _ _ running _ _ _ =>
      h.answerDump (by rw [running]; nofun) t w clear tr answer
  case late => exact fun _ _ => State.Settled.grant (h.of_standing rfl)
  case discard => exact fun _ => h.freeMemory.grant
  case loadBegin => exact fun t w _ running _ _ => h.requestChunk (by rw [running]; nofun) t w
  case loadWrite =>
    intro t w _ image rest running _ _ _
    have written := h.of_standing (s.writeRunEntry_standing t (imageFields image.word0))
    have still : (s.writeRunEntry t (imageFields image.word0)).engine.state = .running t w := running
    exact written.continueLoad (by rw [still]; nofun) t w rest
  case fillWrite =>
    intro t w value _ _
    have written := h.of_standing (s.writeRunEntry_standing t value)
    split
    · exact written.endTransfer .complete
    · exact written
  case dumpRead => exact fun t w _ clear running _ _ => h.readForDump (by rw [running]; nofun) t w clear
  all_goals
    intros
    exact h.of_standing rfl

/-- Every command keeps the laws of waiting. -/
theorem State.WaitingLawful.exec {i : Instr} (h : s.WaitingLawful) (e : exec i s = .next u) :
    u.WaitingLawful := by
  obtain ⟨settled, held⟩ := State.waitingLawful_iff.mp h
  refine State.waitingLawful_iff.mpr ?_
  cases reset : s.chip.resetHeld with
  | true =>
    have values := State.heldAtReset_exec (held reset) reset e
    exact ⟨.of_heldAtReset values, fun _ => values⟩
  | false =>
    refine ⟨settled.exec reset e, fun now => ?_⟩
    rcases exec_resetHeld e with same | rfl | rfl
    · exact nomatch (same.trans reset).symm.trans now
    · exact s.pinReset_heldAtReset
    · exact nomatch now

end Sys2Proof.Machine

namespace Sys2Proof.Proofs

open Sys2Proof.Machine

/-- Settles O59: the command taken from the queue runs on the same standing and the same reset values,
and every command keeps the laws of waiting. -/
theorem waitingLaws : Obligations.WaitingLaws := by
  intro s t h e
  unfold step at e
  split at e
  · cases e; exact h
  · next c rest _ =>
    obtain ⟨settled, held⟩ := State.waitingLawful_iff.mp h
    have same : State.WaitingLawful { s with pending := rest } :=
      State.waitingLawful_iff.mpr ⟨settled.of_standing rfl, held⟩
    exact same.exec e

end Sys2Proof.Proofs
end

section
/-! PROOFS. The transfer engine's commands (sections 8.2, 8.3 and 8.7) and QUIET (section 11.2): the end
of a drain and of a quiesce, the start of a transfer with its checks, its end and its abort. -/

namespace Sys2Proof.Machine

open Sys2Proof Sys2Proof.Statements

variable {s : State}

/-! ## The drain and the rest condition (R131, R182) -/

/-- The codes of LOOKUP, HELD, QUEUED and MOVING are those of the bursts that hold a drain (R172). -/
theorem Burst.holdsDrain_iff_code (b : Burst) : b.holdsDrain = true ↔ b.code ∈ [1, 3, 5, 6] := by
  cases b <;> simp [Burst.holdsDrain, Burst.code]

theorem Burst.not_holdsDrain_iff_code (b : Burst) : ¬ b.holdsDrain = true ↔ b.code ∈ [0, 2, 4] := by
  cases b <;> simp [Burst.holdsDrain, Burst.code]

theorem TransferJob.initialWork_eq (job : TransferJob) :
    job.initialWork = ⟨[], if job.kind = .dump then some .reading else none, false⟩ := by
  cases job <;> rfl

theorem State.endDrain_of_not_draining (other : ∀ t, s.engine.state ≠ .draining t) :
    s.endDrain = s := by
  rcases s.endDrain_cases with ⟨eq, _⟩ | ⟨t, draining, _, _⟩
  · exact eq
  · exact absurd draining (other t)

theorem State.endDrain_of_held {t : Transfer} (draining : s.engine.state = .draining t)
    (held : s.drainHeld t.context = true) : s.endDrain = s := by
  simp only [State.endDrain, draining, if_pos held]

theorem State.endDrain_of_drained {t : Transfer} (draining : s.engine.state = .draining t)
    (drained : ¬ s.drainHeld t.context = true) :
    s.endDrain = s.setEngineState (.running t t.job.initialWork) := by
  simp only [State.endDrain, draining, if_neg drained]

theorem State.reachQuiet_of_rest (quiescing : s.chip.mode = .quiescing) (rest : s.atRest = true) :
    s.reachQuiet = (s.setMode .quiet).updateFlags fun f => { f with quietReached := true } :=
  if_pos ⟨quiescing, rest⟩

theorem State.reachQuiet_of_not (not : ¬ (s.chip.mode = .quiescing ∧ s.atRest = true)) :
    s.reachQuiet = s :=
  if_neg not

/-! ## The start of a transfer (R129, R130) -/

/-- Checks 6 and 7 on the list, in order. -/
theorem listFault_eq (job : TransferJob) (count limit : Nat) :
    listFault job count limit =
      if job.listAddress.any fun a => decide (a.toNat % 8 ≠ 0) then some .badParameter
      else if job.listAddress.any fun a => decide (4294967296 < a.toNat + 8 * count ∨
          limit * 4096 < a.toNat + 8 * count) then some .range
      else none := by
  cases list : job.listAddress <;> simp [listFault, list]

section Start

variable {context firstPage count : Word} {fence : Option Bool} {job : Option TransferJob}

theorem performStart_of_busy (busy : s.engine.state ≠ .idle) :
    performStart context firstPage count fence job s = performedFail s .engineBusy :=
  if_pos (Bool.eq_false_iff.mpr fun idle => busy ((EngineState.isIdle_iff _).mp idle))

theorem performStart_of_not_running (idle : s.engine.state = .idle)
    (stopped : s.chip.mode ≠ .running) :
    performStart context firstPage count fence job s = performedFail s .notRunning := by
  simp only [performStart, idle, EngineState.isIdle, Bool.true_eq_false, if_false, if_pos stopped]

theorem performStart_of_bad_parameter (idle : s.engine.state = .idle)
    (running : s.chip.mode = .running)
    (bad : contextParam context = none ∨ fence = none ∨ job = none) :
    performStart context firstPage count fence job s = performedFail s .badParameter := by
  simp only [performStart, idle, running, EngineState.isIdle, Bool.true_eq_false, if_false, ne_eq,
    not_true_eq_false]
  split
  · next named => simp [named] at bad
  · rfl

/-- The checks on the context record, the run and the list, in order, then the acts of the start. -/
theorem performStart_of_parameters {f : Bool} {j : TransferJob} (idle : s.engine.state = .idle)
    (running : s.chip.mode = .running) (named : context.toNat < 16) :
    performStart context firstPage count (some f) (some j) s =
      if s.contexts[context.toNat].defined = false then performedFail s .notDefined
      else if count.toNat = 0 ∨ 2048 < count.toNat ∨
          s.contexts[context.toNat].pages < firstPage.toNat + count.toNat then performedFail s .range
      else (listFault j count.toNat s.chip.frameLimit).elim
        (performedOk (s.startTransfer ⟨j, ⟨context.toNat, named⟩, firstPage.toNat, count.toNat, f⟩))
        (performedFail s) := by
  have param : contextParam context = some ⟨context.toNat, named⟩ := contextParam_of_eq rfl
  simp only [performStart, idle, running, param, EngineState.isIdle, Bool.true_eq_false, if_false,
    ne_eq, not_true_eq_false, Fin.getElem_fin]
  cases listFault j count.toNat s.chip.frameLimit <;> rfl

end Start

/-- The acts of the start: the mark, the outcome record and ENGINE STATE, and a drain with nothing to
wait for ended at once. -/
theorem State.startTransfer_eq (s : State) (t : Transfer) :
    s.startTransfer t = State.endDrain
      { putContext s t.context
          { s.contexts[t.context] with mark := if t.fence = true then .fenced else .plain } with
        engine :=
          { s.engine with
            state := if t.fence = true then .draining t else .running t t.job.initialWork
            outcome :=
              { state := .inProgress, kind := some t.job.kind, context := t.context
                firstPage := t.firstPage, count := t.count, done := 0, marksLost := 0
                failingAddress := none } } } := by
  cases fence : t.fence
  · rw [State.endDrain_of_not_draining (by simp)]
    simp only [State.startTransfer, fence]
    rfl
  · simp only [State.startTransfer, fence]
    rfl

/-- STATUS with what a performance leaves (R165). -/
def Performed.ended (done : Performed) (code : BitVec 8) : State :=
  ends done.state code done.outcome done.results

theorem State.performCommand_ended {code : BitVec 8} {perform : ParamWords → State → Performed}
    (taken : s.command.status = .taken code) :
    s.performCommand code perform = (perform s.command.latched s).ended code :=
  s.performCommand_taken code perform taken

/-- A start command with its values as words: the chain of checks, then the start. -/
theorem performStart_ended {code : BitVec 8} {fence : Word} {values : Prop} [Decidable values]
    {job : TransferJob} {given : Option TransferJob} (allowed : values → given = some job)
    (refused : ¬ values → given = none) :
    (performStart s.command.latched[0] s.command.latched[1] s.command.latched[2]
      (yesNoParam fence) given s).ended code = start s code fence values job job.listAddress := by
  unfold start
  dsimp only
  by_cases idle : s.engine.state = .idle
  case neg => rw [performStart_of_busy idle, if_pos idle]; rfl
  rw [if_neg (not_not.mpr idle)]
  by_cases running : s.chip.mode = .running
  case neg => rw [performStart_of_not_running idle running, if_pos running]; rfl
  rw [if_neg (not_not.mpr running)]
  by_cases parameters : s.command.latched[0].toNat < 16 ∧ fence.toNat ≤ 1 ∧ values
  case neg =>
    have bad : contextParam s.command.latched[0] = none ∨ yesNoParam fence = none ∨
        given = none := by
      by_cases context : s.command.latched[0].toNat < 16
      · by_cases yesNo : fence.toNat ≤ 1
        · exact Or.inr (Or.inr (refused fun v => parameters ⟨context, yesNo, v⟩))
        · exact Or.inr (Or.inl (yesNoParam_of_above (Nat.lt_of_not_le yesNo)))
      · exact Or.inl (contextParam_of_above (Nat.not_lt.mp context))
    rw [performStart_of_bad_parameter idle running bad, dif_neg parameters]
    rfl
  have ⟨context, yesNo, inside⟩ := parameters
  rw [dif_pos parameters, allowed inside, yesNoParam_of_le yesNo,
    performStart_of_parameters idle running context, listFault_eq, elim_ite_some, elim_ite_some]
  simp only [apply_ite (Performed.ended · code)]
  congr 4
  have acts := s.startTransfer_eq ⟨job, ⟨s.command.latched[0].toNat, context⟩,
    s.command.latched[1].toNat, s.command.latched[2].toNat, decide (fence.toNat = 1)⟩
  simp only [decide_eq_true_eq, TransferJob.initialWork_eq] at acts
  exact congrArg (succeeds · code) acts

/-! ## The abort of a transfer (R142, R143, R144) -/

theorem performAbortTransfer_of_idle (idle : s.engine.state = .idle) (params : ParamWords) :
    performAbortTransfer params s = performedFail s .engineIdle :=
  if_pos ((EngineState.isIdle_iff _).mpr idle)

theorem performAbortTransfer_of_busy (busy : s.engine.state ≠ .idle) (params : ParamWords) :
    performAbortTransfer params s = performedOk s.abort :=
  if_neg fun idle => busy ((EngineState.isIdle_iff _).mp idle)

/-- ABORT TRANSFER with a transfer in progress. -/
theorem exec_abortTransfer_of_busy (taken : s.command.status = .taken 0x53#8)
    (busy : s.engine.state ≠ .idle) :
    exec (.abortTransfer .perform) s = .next (succeeds s.abort 0x53#8) :=
  congrArg Host.Outcome.next
    (s.performCommand_ends taken (performAbortTransfer_of_busy busy s.command.latched))

section Abort

variable {t : Transfer} {w : Work}

theorem State.abort_of_draining (draining : s.engine.state = .draining t) :
    s.abort = s.endTransfer .aborted := by
  simp only [State.abort, draining]

theorem State.abort_of_fill (running : s.engine.state = .running t w) (fill : t.job.kind = .fill) :
    s.abort = s.endTransfer .aborted := by
  cases job : t.job <;> simp [TransferJob.kind, job] at fill
  simp only [State.abort, running, job]

theorem State.abort_of_load (running : s.engine.state = .running t w) (load : t.job.kind = .load) :
    s.abort = State.endTransfer
      { s with engine := { s.engine with
        late := s.engine.late || decide (w.stage = some .inFlight) } } .aborted := by
  cases job : t.job <;> simp [TransferJob.kind, job] at load
  have ended : s.abort =
      (if w.stage = some .inFlight then s.holdLate else s).endTransfer .aborted := by
    simp only [State.abort, running, job]
  rw [ended]
  split
  · next inFlight => simp only [inFlight, decide_true, Bool.or_true]; rfl
  · next landed => simp only [landed, decide_false, Bool.or_false]

theorem State.abort_of_dump (running : s.engine.state = .running t w) (dump : t.job.kind = .dump) :
    s.abort = s.abortDump t w := by
  cases job : t.job <;> simp [TransferJob.kind, job] at dump
  simp only [State.abort, running, job]

theorem State.abortDump_of_unread (reading : w.stage = some .reading) (empty : w.chunk = []) :
    s.abortDump t w = s.endTransfer .aborted := by
  simp only [State.abortDump, reading, empty, List.isEmpty_nil, if_true]

theorem State.abortDump_of_read (reading : w.stage = some .reading) (images : w.chunk ≠ []) :
    s.abortDump t w = s.requestChunk t { w with abortPending := true } := by
  simp only [State.abortDump, reading, List.isEmpty_iff, if_neg images]

theorem State.abortDump_of_asked (asked : w.stage = some .requesting ∨ w.stage = some .inFlight) :
    s.abortDump t w = s.setEngineState (.running t { w with abortPending := true }) := by
  rcases asked with requesting | inFlight
  · simp only [State.abortDump, requesting]
  · simp only [State.abortDump, inFlight]

end Abort

end Sys2Proof.Machine

namespace Sys2Proof.Proofs

open Sys2Proof.Machine Sys2Proof.Statements

/-- Settles O42: the acts of the end, one field each. -/
theorem transferEnds : Obligations.TransferEnds :=
  fun s t result progress => s.endTransfer_of result t progress

/-- Settles O41: the bursts that hold a drain by their codes, and the rest condition port by port. -/
theorem drainAndQuiet : Obligations.DrainAndQuiet := by
  refine ⟨fun s t draining => ⟨fun ⟨p, bound, code⟩ => ?_, fun none => ?_⟩, fun s =>
    ⟨rfl, fun quiescing bursts idle => ?_, fun busy => ?_, State.endDrain_of_not_draining⟩⟩
  · exact State.endDrain_of_held draining
      (State.drainHeld_iff.mpr ⟨p, bound, (Burst.holdsDrain_iff_code _).mpr code⟩)
  · have drained : ¬ s.drainHeld t.context = true := fun held => by
      obtain ⟨p, bound, holds⟩ := State.drainHeld_iff.mp held
      exact (Burst.not_holdsDrain_iff_code _).mpr (none p bound) holds
    rw [State.endDrain_of_drained draining drained, TransferJob.initialWork_eq]
    rfl
  · exact State.reachQuiet_of_rest quiescing (State.atRest_iff.mpr ⟨bursts, idle⟩)
  · refine State.reachQuiet_of_not fun ⟨quiescing, rest⟩ => ?_
    obtain ⟨bursts, idle⟩ := State.atRest_iff.mp rest
    rcases busy with mode | ⟨p, burst⟩ | engine
    · exact mode quiescing
    · exact burst (bursts p)
    · exact engine idle

/-- Settles O40: one chain of checks for the three commands, which differ in the values their jobs
allow. -/
theorem startTransfers : Obligations.StartTransfers := by
  refine fun s => ⟨fun taken => ?_, fun taken => ?_, fun taken => ?_⟩
  · refine congrArg Host.Outcome.next ((State.performCommand_ended taken).trans ?_)
    exact performStart_ended (job := .load s.command.latched[3]) (fun _ => rfl)
      fun never => absurd trivial never
  · refine congrArg Host.Outcome.next ((State.performCommand_ended taken).trans ?_)
    refine performStart_ended (job := .dump s.command.latched[3] _) (fun clear => ?_)
      fun above => ?_
    · rw [yesNoParam_of_le clear]; rfl
    · rw [yesNoParam_of_above (Nat.lt_of_not_le above)]; rfl
  · refine congrArg Host.Outcome.next ((State.performCommand_ended taken).trans ?_)
    refine performStart_ended (job := .fill _) (fun frame => ?_) fun above => ?_
    · rw [frameParam_eq, if_neg (Nat.not_lt.mpr frame)]; rfl
    · rw [frameParam_eq, if_pos (Nat.lt_of_not_le above)]; rfl

/-- Settles O43: the abort by ENGINE STATE, by the job, and for a DUMP by the stage of its chunk. -/
theorem abortTransfer : Obligations.AbortTransfer := by
  intro s taken
  refine ⟨fun idle => ?_, fun t draining => ?_, fun t w running =>
    ⟨fun fill => ?_, fun load => ?_, fun dump =>
      ⟨fun reading empty => ?_, fun reading images => ?_, fun asked => ?_⟩⟩⟩
  · exact congrArg Host.Outcome.next
      (s.performCommand_ends taken (performAbortTransfer_of_idle idle s.command.latched))
  all_goals rw [exec_abortTransfer_of_busy taken (by simp [*])]
  · rw [State.abort_of_draining draining]
  · rw [State.abort_of_fill running fill]
  · rw [State.abort_of_load running load]
  · rw [State.abort_of_dump running dump, State.abortDump_of_unread reading empty]
  · rw [State.abort_of_dump running dump, State.abortDump_of_read reading images]
    rfl
  · rw [State.abort_of_dump running dump, State.abortDump_of_asked asked]
    rfl

end Sys2Proof.Proofs
end

section
/-! PROOFS. The chunks of a transfer (sections 8.4 to 8.6): the words of a chunk, its transaction and the
answers to it, the entries written and read one in an event, and the answers that are discarded. -/

namespace Sys2Proof.Machine

open Sys2Proof Sys2Proof.Statements

variable {s : State} {t : Transfer} {w : Work}

/-! ## The words of a chunk (R133, R137, R176) -/

theorem wordsOfImages_length (images : List ChunkImage) :
    (wordsOfImages images).length = 2 * images.length := by
  induction images with
  | nil => rfl
  | cons image rest ih =>
    rw [wordsOfImages] at ih
    simp only [wordsOfImages, List.flatMap_cons, List.length_append, ih, List.length_cons,
      List.length_nil]
    omega

/-- Image `k` of a chunk stands in words `2 * k` and `2 * k + 1`. -/
theorem wordsOfImages_getElem? (images : List ChunkImage) (k : Nat) (h : k < images.length) :
    (wordsOfImages images)[2 * k]? = some images[k].word0 ∧
      (wordsOfImages images)[2 * k + 1]? = some images[k].word1 := by
  induction images generalizing k with
  | nil => exact absurd h (Nat.not_lt_zero k)
  | cons image rest ih =>
    cases k with
    | zero => exact ⟨rfl, rfl⟩
    | succ k => exact ih k (Nat.lt_of_succ_lt_succ h)

theorem imagesOfWords_length (page : Nat) (words : List Word) :
    (imagesOfWords page words).length = words.length / 2 := by
  induction page, words using imagesOfWords.induct with
  | case1 page w0 w1 rest ih =>
    simp only [imagesOfWords, List.length_cons, ih]
    omega
  | case2 words page short =>
    match words with
    | [] | [_] => simp [imagesOfWords]
    | w0 :: w1 :: rest => exact absurd rfl (short w0 w1 rest)

/-- Words `2 * k` and `2 * k + 1` of a chunk read are the image of the page `k` after the first. -/
theorem imagesOfWords_getElem (page : Nat) (words : List Word) (k : Nat)
    (h : k < (imagesOfWords page words).length) :
    (imagesOfWords page words)[k].page = page + k ∧
      words[2 * k]? = some (imagesOfWords page words)[k].word0 ∧
      words[2 * k + 1]? = some (imagesOfWords page words)[k].word1 := by
  induction page, words using imagesOfWords.induct generalizing k with
  | case1 page w0 w1 rest ih =>
    cases k with
    | zero => exact ⟨rfl, rfl, rfl⟩
    | succ k =>
      obtain ⟨pages, first, second⟩ := ih k (Nat.lt_of_succ_lt_succ h)
      exact ⟨pages.trans (Nat.succ_add_eq_add_succ page k), first, second⟩
  | case2 words page short =>
    match words with
    | [] | [_] => exact absurd h (Nat.not_lt_zero k)
    | w0 :: w1 :: rest => exact absurd rfl (short w0 w1 rest)

/-- Bits that no field shows are 0. -/
theorem joinFields_gap (fields : List Word) (lo n : Nat)
    (none : ∀ x ∈ fields, ∀ j < n, x.getLsbD (lo + j) = false) :
    (joinFields fields).toNat / 2 ^ lo % 2 ^ n = 0 := by
  refine Nat.eq_of_testBit_eq fun j => ?_
  rw [Nat.testBit_mod_two_pow, Nat.testBit_div_two_pow, Nat.zero_testBit, Nat.add_comm j lo]
  by_cases inside : j < n
  · have clear := joinFields_getLsbD fields (lo + j)
    rw [List.any_eq_false.mpr fun x mem => by rw [none x mem j inside]; exact Bool.false_ne_true]
      at clear
    rw [← BitVec.getLsbD, clear, Bool.and_false]
  · rw [decide_eq_false inside, Bool.false_and]

/-- Word 1 of an image: the logical page in bits 0–10, the context in bits 16–19, nothing else. -/
theorem imageWord1_fields {page : Nat} (h : page < 2048) (c : ContextId) :
    bits (imageWord1 page c) 0 11 = page ∧ bits (imageWord1 page c) 11 5 = 0 ∧
      bits (imageWord1 page c) 16 4 = c.val ∧ bits (imageWord1 page c) 20 12 = 0 := by
  have number : page < 2 ^ 11 := h
  have context : c.val < 2 ^ 4 := c.isLt
  have pageOnly (i : Nat) (outside : 11 ≤ i) : (Machine.place 0 page).getLsbD i = false :=
    place_outside 0 page 11 i number (Or.inr (by omega))
  have contextOnly (i : Nat) (outside : i < 16 ∨ 20 ≤ i) :
      (Machine.place 16 c.val).getLsbD i = false :=
    place_outside 16 c.val 4 i context outside
  have gap (lo n : Nat) (outside : ∀ j < n, 11 ≤ lo + j ∧ (lo + j < 16 ∨ 20 ≤ lo + j)) :
      bits (imageWord1 page c) lo n = 0 := by
    refine joinFields_gap _ lo n ?_
    simp only [List.forall_mem_cons, List.not_mem_nil, false_imp_iff, implies_true, and_true]
    exact ⟨fun j inside => pageOnly _ (outside j inside).left,
      fun j inside => contextOnly _ (outside j inside).right⟩
  refine ⟨?_, gap 11 5 fun j _ => by omega, ?_, gap 20 12 fun j _ => by omega⟩
  · refine joinFields_field [] _ [Machine.place 16 c.val] 0 11 page number
      (fun j inside => place_own 0 page j (by omega)) ?_
    simpa using fun j inside => contextOnly j (by omega)
  · refine joinFields_field [Machine.place 0 page] _ [] 16 4 c.val context
      (fun j inside => place_own 16 c.val j (by omega)) ?_
    simpa using fun j inside => pageOnly _ (by omega)

/-! ## The answers to a chunk's transaction (R108, R133, R138) -/

/-- A chunk read answered OK is to be written (R133). -/
theorem State.answerLoad_ok (s : State) (t : Transfer) (w : Work) (tr : Transaction)
    (words : List Word) :
    s.answerLoad t w tr (.ok words) = State.grant
      { s with
        memory := { s.memory with holder := .free, transaction := none }
        engine := { s.engine with
          state := .running t { w with
            chunk := imagesOfWords (t.firstPage + s.engine.outcome.done) words
            stage := some .writing } } } :=
  rfl

/-- The answer that a DUMP's chunk IN FLIGHT awaits (R138). -/
theorem exec_dumpChunkAnswer_of_inFlight {tr : Transaction} {a : Word} {clear : Bool}
    (holder : s.memory.holder = .requester .engine) (transaction : s.memory.transaction = some tr)
    (running : s.engine.state = .running t w) (dump : t.job = .dump a clear)
    (inFlight : w.stage = some .inFlight) (late : s.engine.late = false) {answer : MemoryAnswer}
    (wordless : answer.carriesNoWords = true) :
    exec (.dumpChunkAnswer answer) s = .next (s.answerDump t w clear tr answer) := by
  simp only [exec, execDumpChunkAnswer, Instr.wellFormed, wordless, if_true, holder, transaction,
    running, dump]
  exact if_pos ⟨inFlight, late⟩

/-! ## The entries of a run (R134, R136, R137) -/

/-- The fields in word 0 of an image (R134). -/
theorem imageFields_eq (word0 : Word) :
    imageFields word0 =
      { frame := BitVec.ofNat 20 word0.toNat, valid := word0.getLsbD 24, read := word0.getLsbD 25,
        write := word0.getLsbD 26, touched := word0.getLsbD 27, dirty := word0.getLsbD 28 } :=
  rfl

theorem exec_loadEntryWrite_of_writing {a : Word} {image : ChunkImage} {rest : List ChunkImage}
    (running : s.engine.state = .running t w) (load : t.job = .load a)
    (writing : w.stage = some .writing) (chunk : w.chunk = image :: rest) :
    exec .loadEntryWrite s =
      .next ((s.writeRunEntry t (imageFields image.word0)).continueLoad t w rest) := by
  simp only [exec, execLoadEntryWrite, running, load, writing, chunk]

theorem exec_fillEntryWrite_of_fill {value : Fields} (running : s.engine.state = .running t w)
    (fill : t.job = .fill value) :
    exec .fillEntryWrite s = .next (
      if s.engine.outcome.done + 1 = t.count then (s.writeRunEntry t value).endTransfer .complete
      else s.writeRunEntry t value) := by
  simp only [exec, execFillEntryWrite, running, fill]
  rfl

theorem exec_dumpEntryRead_of_reading {a : Word} {clear : Bool}
    (running : s.engine.state = .running t w) (dump : t.job = .dump a clear)
    (reading : w.stage = some .reading) :
    exec .dumpEntryRead s = .next (s.readForDump t w clear) := by
  simp only [exec, execDumpEntryRead, running, dump, reading]

theorem exec_loadChunkBegin_of_none {a : Word} (running : s.engine.state = .running t w)
    (load : t.job = .load a) (none : w.stage = none) :
    exec .loadChunkBegin s = .next (s.requestChunk t w) := by
  simp only [exec, execLoadChunkBegin, running, load]
  exact congrArg Host.Outcome.next (if_pos none)

end Sys2Proof.Machine

namespace Sys2Proof.Proofs

open Sys2Proof.Machine Sys2Proof.Statements

/-- Settles O37: the two transactions as the grant issues them, the data of a DUMP image by image. -/
theorem chunkTransactions : Obligations.ChunkTransactions := by
  refine fun t w done a => ⟨fun load => ?_, fun clear dump => ?_⟩
  · exact ⟨_, by rw [chunkTransaction, load], rfl, rfl, rfl⟩
  · exact ⟨_, by rw [chunkTransaction, dump], rfl, rfl, rfl, wordsOfImages_length _,
      wordsOfImages_getElem? _⟩

/-- Settles O39: the memory port freed, then the grant. -/
theorem discardedAnswers : Obligations.DiscardedAnswers :=
  fun _ _ => ⟨fun late holder => congrArg Host.Outcome.next (if_pos ⟨late, holder⟩),
    fun discarding => congrArg Host.Outcome.next (if_pos discarding)⟩

/-- Settles O44: the request of the first chunk, the images of an OK answer word by word, and the end
on ERROR. -/
theorem loadChunks : Obligations.LoadChunks := by
  refine ⟨fun s t w a running load none => exec_loadChunkBegin_of_none running load none, ?_⟩
  intro s t w a tr holder transaction read running load inFlight late free
  refine ⟨fun words size => ?_, ?_⟩
  · refine ⟨imagesOfWords (t.firstPage + s.engine.outcome.done) words, imagesOfWords_length _ words,
      imagesOfWords_getElem _ words, ?_⟩
    have fits : tr.acceptsAnswer (.ok words) = true :=
      Transaction.acceptsAnswer_ok (fun _ => size) fun write => nomatch read.symm.trans write
    rw [exec_loadChunkAnswer_of_inFlight holder transaction running load inFlight late, if_pos fits,
      State.answerLoad_ok]
  · rw [exec_loadChunkAnswer_of_inFlight holder transaction running load inFlight late,
      if_pos tr.acceptsAnswer_error]
    rfl

/-- Settles O45: the entry written and counted, then the end at COUNT, the next chunk asked for, or the
rest of the chunk. -/
theorem engineWrites : Obligations.EngineWrites := by
  refine fun s t w running => ⟨fun a image rest load writing chunk => ?_, fun value fill => ?_⟩
  · rw [exec_loadEntryWrite_of_writing running load writing chunk, State.continueLoad,
      imageFields_eq]
    simp only [List.isEmpty_iff]
    rfl
  · exact exec_fillEntryWrite_of_fill running fill

/-- Settles O46: the entry read joins the chunk as an image, which is still short or asks for its
write. -/
theorem dumpReads : Obligations.DumpReads := by
  intro s t w a clear running dump reading page i u
  refine ⟨dumpImage (s.store.entry i) page t.context, rfl, rfl,
    fun inside => imageWord1_fields inside t.context, ?_⟩
  rw [exec_dumpEntryRead_of_reading running dump reading, State.readForDump]
  simp only [List.length_append, List.length_singleton]
  rfl

/-- Settles O47: the chunk counted, then the end at COUNT, the abort that was pending, or the next
image; on ERROR the end with the marks lost. -/
theorem dumpChunkAnswer : Obligations.DumpChunkAnswer := by
  intro s t w a clear tr holder transaction running dump inFlight late free done counted
  have answered {answer : MemoryAnswer} (wordless : answer.carriesNoWords = true) :=
    exec_dumpChunkAnswer_of_inFlight holder transaction running dump inFlight late wordless
  exact ⟨answered rfl, answered rfl⟩

end Sys2Proof.Proofs
end

section
/-! PROOFS. The watch windows (chapter 9): SET WINDOW with its checks in order, what the compare of a
burst does to the windows and to the burst, and RESUME HELD and CANCEL HELD. -/

namespace Sys2Proof.Machine

open Sys2Proof Sys2Proof.Statements

variable {s : State} {p : PortId} {r : CurrentRequest} {segs : Segments}

/-! ## SET WINDOW (R151, R174) -/

theorem actionParam_of_above {w : Word} (h : 1 < w.toNat) : actionParam w = none := by
  have not_zero : w ≠ 0#32 := by rintro rfl; simp at h
  have not_one : w ≠ 1#32 := by rintro rfl; simp at h
  simp only [actionParam, if_neg not_zero, if_neg not_one]

theorem actionParam_of_le {w : Word} (h : w.toNat ≤ 1) :
    actionParam w = some (if w.toNat = 1 then .hold else .note) := by
  rcases Nat.le_one_iff_eq_zero_or_eq_one.mp h with zero | one
  · obtain rfl : w = 0#32 := BitVec.eq_of_toNat_eq zero
    rfl
  · obtain rfl : w = 1#32 := BitVec.eq_of_toNat_eq one
    rfl

theorem bitOf_eq_decide_bits (w : Word) (i : Nat) : bitOf w i = decide (bits w i 1 = 1) := by
  rw [bits, bit_as_number, bitOf]
  cases w.getLsbD i <;> rfl

/-- A field of two bits is 0 when both are. -/
theorem bits_two_eq_zero_iff (w : Word) (lo : Nat) :
    bits w lo 2 = 0 ↔ bits w lo 1 = 0 ∧ bits w (lo + 1) 1 = 0 := by
  simp only [bits, Nat.pow_succ, Nat.pow_zero, ← Nat.div_div_eq_div_mul]
  omega

theorem extractLsb'_eq_ofNat_bits (w : Word) (lo width : Nat) :
    w.extractLsb' lo width = BitVec.ofNat width (bits w lo width) := by
  apply BitVec.eq_of_toNat_eq
  simp [bits, Nat.shiftRight_eq_div_pow]

/-- Checks 2, 5, 6 and 7 of R151 as numbers. -/
theorem windowValuesAllowed_iff (low high selector : Word) :
    windowValuesAllowed low high selector = true ↔
      ¬ (bits selector 0 1 = 0 ∧ bits selector 1 1 = 0) ∧ bits selector 14 2 = 0 ∧
        low.toNat % 4 = 0 ∧ high.toNat % 4 = 0 ∧ low.toNat ≤ high.toNat := by
  have binary (i : Nat) : bits selector i 1 = 0 ∨ bits selector i 1 = 1 :=
    Nat.mod_two_eq_zero_or_one _
  have direction0 := binary 0
  have direction1 := binary 1
  have port6 := binary 14
  have port7 := binary 15
  simp only [windowValuesAllowed, bitOf_eq_decide_bits, bits_two_eq_zero_iff, Nat.reduceAdd,
    Bool.and_eq_true, Bool.or_eq_true, Bool.not_eq_true', decide_eq_true_eq,
    decide_eq_false_iff_not]
  omega

/-- SET WINDOW is its seven checks, then the configuration with the hit fields restarted. -/
theorem performSetWindow_eq (params : ParamWords) (s : State) :
    performSetWindow params s =
      if h : params[0].toNat < 4 then
        if (bits params[3] 0 1 = 0 ∧ bits params[3] 1 1 = 0) ∨ 1 < params[4].toNat ∨
            1 < params[5].toNat ∨ bits params[3] 14 2 ≠ 0 ∨ params[1].toNat % 4 ≠ 0 ∨
            params[2].toNat % 4 ≠ 0 ∨ params[2].toNat < params[1].toNat then
          performedFail s .badParameter
        else
          performedOk { s with
            windows := s.windows.set params[0].toNat
              { enabled := decide (params[5].toNat = 1), low := params[1], high := params[2],
                onRead := decide (bits params[3] 0 1 = 1),
                onWrite := decide (bits params[3] 1 1 = 1),
                portSet := BitVec.ofNat 6 (bits params[3] 8 6),
                action := if params[4].toNat = 1 then .hold else .note, hitCount := 0,
                lastHit := none } }
      else performedFail s .badParameter := by
  have values := windowValuesAllowed_iff params[1] params[2] params[3]
  unfold performSetWindow windowParam
  by_cases window : params[0].toNat < 4
  · simp only [dif_pos window]
    by_cases action : 1 < params[4].toNat
    · rw [actionParam_of_above action]
      exact (if_pos (by omega)).symm
    · rw [actionParam_of_le (by omega)]
      by_cases enabled : 1 < params[5].toNat
      · rw [yesNoParam_of_above enabled]
        exact (if_pos (by omega)).symm
      · rw [yesNoParam_of_le (by omega)]
        dsimp only
        by_cases allowed : windowValuesAllowed params[1] params[2] params[3] = true
        · refine (if_pos allowed).trans (Eq.trans ?_ (if_neg ?_).symm)
          · rw [bitOf_eq_decide_bits, bitOf_eq_decide_bits, extractLsb'_eq_ofNat_bits]
          · rw [values] at allowed
            omega
        · exact (if_neg allowed).trans (if_pos (by rw [values] at allowed; omega)).symm
  · simp only [dif_neg window]

/-! ## The match of a window (R154, R155) -/

theorem Window.covers_iff_inRange (w : Window) (seg : Segment) :
    w.covers seg = true ↔ inRange w seg := by
  simp only [Window.covers, Bool.and_eq_true, decide_eq_true_eq]
  rfl

theorem Window.watches_iff (w : Window) (p : PortId) (direction : Direction) :
    w.watches p direction = true ↔
      w.enabled = true ∧ (direction = .read → w.onRead = true) ∧
        (direction = .write → w.onWrite = true) ∧ w.portSet.getLsbD p.val = true := by
  cases direction <;> simp [Window.watches, and_assoc]

theorem Window.matchesBurst_iff_hits (w : Window) (p : PortId) (direction : Direction)
    (segs : Segments) : w.matchesBurst p direction segs = true ↔ hits w p direction segs := by
  simp only [Window.matchesBurst, Bool.and_eq_true, Bool.or_eq_true, Window.watches_iff,
    Option.any_eq_true, Window.covers_iff_inRange, hits, and_assoc]
  rfl

/-- LAST HIT names the larger of LOW and the start of the segment matched. -/
theorem Window.hit_eq (w : Window) (p : PortId) (r : CurrentRequest) (segs : Segments) :
    w.hit p r segs = { w with
      hitCount := min 65535 (w.hitCount + 1)
      lastHit := some ⟨p, BitVec.ofNat 32
        (max w.low.toNat (segs.segment (w.matchedSegment segs)).start.toNat), r.direction,
        r.length⟩ } := by
  unfold Window.hit
  dsimp only
  split
  · next below => rw [Nat.max_eq_left below, BitVec.ofNat_toNat, BitVec.setWidth_eq]
  · next above => rw [Nat.max_eq_right (by omega), BitVec.ofNat_toNat, BitVec.setWidth_eq]

/-- A burst that hits the window outside its first segment has a second one, and that is matched. -/
theorem Window.matchedSegment_of_hits {w : Window} (hit : hits w p r.direction segs) :
    (inRange w segs.first → segs.segment (w.matchedSegment segs) = segs.first) ∧
      (¬ inRange w segs.first →
        segs.second = some (segs.segment (w.matchedSegment segs))) := by
  rw [Window.matchedSegment]
  refine ⟨fun first => by rw [if_pos ((w.covers_iff_inRange _).mpr first)]; rfl, fun outside => ?_⟩
  obtain ⟨_, _, _, _, first | ⟨second, present, _⟩⟩ := hit
  · exact absurd first outside
  · rw [if_neg (mt (w.covers_iff_inRange _).mp outside), Segments.segment, Option.mem_def.mp present]
    rfl

/-! ## The windows and the flag after a compare (R155, R156) -/

theorem State.recordHits_windows_get (s : State) (p : PortId) (r : CurrentRequest)
    (segs : Segments) (w : WindowId) :
    (s.recordHits p r segs).windows[w] =
      if s.windows[w].matchesBurst p r.direction segs then s.windows[w].hit p r segs
      else s.windows[w] := by
  simp [State.recordHits]

theorem State.recordHits_windows_of_hits {w : WindowId} (hit : hits s.windows[w] p r.direction segs) :
    (s.recordHits p r segs).windows[w] = s.windows[w].hit p r segs := by
  rw [s.recordHits_windows_get, if_pos ((Window.matchesBurst_iff_hits _ _ _ _).mpr hit)]

theorem State.recordHits_windows_of_not_hits {w : WindowId}
    (miss : ¬ hits s.windows[w] p r.direction segs) :
    (s.recordHits p r segs).windows[w] = s.windows[w] := by
  rw [s.recordHits_windows_get, if_neg (mt (Window.matchesBurst_iff_hits _ _ _ _).mp miss)]

theorem allWindows_eq_finRange : allWindows = List.finRange 4 := by decide

/-- WATCH_NOTE after the compare of a burst that no HOLD window matches. -/
def State.noteAfter (s : State) (p : PortId) (direction : Direction) (segs : Segments) : Bool :=
  s.chip.flags.watchNote || allWindows.any fun w => s.windows[w].matchesBurst p direction segs

theorem State.noteAfter_iff (s : State) (p : PortId) (direction : Direction) (segs : Segments) :
    s.noteAfter p direction segs = true ↔
      s.chip.flags.watchNote = true ∨ ∃ w : WindowId, hits s.windows[w] p direction segs := by
  simp only [State.noteAfter, Bool.or_eq_true, List.any_eq_true, allWindows_eq_finRange,
    List.mem_finRange, true_and, Window.matchesBurst_iff_hits]

theorem State.noteMatches_eq (s : State) (p : PortId) (direction : Direction) (segs : Segments) :
    s.noteMatches p direction segs =
      s.updateFlags fun f => { f with watchNote := s.noteAfter p direction segs } := by
  unfold State.noteMatches State.noteAfter
  split
  · next matched => rw [matched, Bool.or_true]
  · next unmatched => rw [Bool.eq_false_iff.mpr unmatched, Bool.or_false]; rfl

/-! ## The hold set and the WATCH segment (R156) -/

theorem State.mem_holdSetOf {w : WindowId} {direction : Direction} :
    w ∈ s.holdSetOf p direction segs ↔
      hits s.windows[w] p direction segs ∧ s.windows[w].action = .hold := by
  simp only [State.holdSetOf, allWindows_eq_finRange, List.mem_filter, List.mem_finRange, true_and,
    Bool.and_eq_true, Window.matchesBurst_iff_hits, decide_eq_true_eq]

theorem State.holdSetOf_pairwise (s : State) (p : PortId) (direction : Direction) (segs : Segments) :
    (s.holdSetOf p direction segs).Pairwise (· < ·) := by
  rw [State.holdSetOf, allWindows_eq_finRange]
  exact (List.pairwise_lt_finRange 4).filter _

theorem State.watchSegmentOf_eq_one_iff (s : State) (holdSet : List WindowId) (segs : Segments) :
    s.watchSegmentOf holdSet segs = .one ↔ ∃ w ∈ holdSet, inRange s.windows[w] segs.first := by
  simp [State.watchSegmentOf, Window.covers_iff_inRange]

/-! ## The burst after a compare (R156) -/

/-- With no HOLD window among those that match, the burst goes on to the memory port. -/
theorem State.watchCompare_of_no_hold
    (notes : ∀ w : WindowId, hits s.windows[w] p r.direction segs → s.windows[w].action = .note) :
    s.watchCompare p r segs = State.grant
      { s with
        windows := (s.recordHits p r segs).windows
        chip := { s.chip with
          flags := { s.chip.flags with watchNote := s.noteAfter p r.direction segs } }
        ports := s.ports.set p { s.ports[p] with burst := .queued r segs } } := by
  have empty : s.holdSetOf p r.direction segs = [] :=
    List.eq_nil_iff_forall_not_mem.mpr fun w mem => by
      obtain ⟨hit, hold⟩ := State.mem_holdSetOf.mp mem
      exact nomatch (notes w hit).symm.trans hold
  rw [State.watchCompare, if_pos (List.isEmpty_iff.mpr empty), s.noteMatches_eq]
  rfl

/-- With a HOLD window among those that match, the burst is HELD. -/
theorem State.watchCompare_of_hold {w : WindowId} (hit : hits s.windows[w] p r.direction segs)
    (hold : s.windows[w].action = .hold) :
    s.watchCompare p r segs =
      { s with
        windows := (s.recordHits p r segs).windows
        ports := s.ports.set p { s.ports[p] with
          burst := .held r segs (s.holdSetOf p r.direction segs)
            (s.watchSegmentOf (s.holdSetOf p r.direction segs) segs) } } := by
  have nonempty : s.holdSetOf p r.direction segs ≠ [] :=
    List.ne_nil_of_mem (State.mem_holdSetOf.mpr ⟨hit, hold⟩)
  rw [State.watchCompare, if_neg (mt List.isEmpty_iff.mp nonempty)]
  rfl

/-! ## RESUME HELD and CANCEL HELD (R158, R159) -/

section Held

variable {params : ParamWords} {q : PortId} {holdSet : List WindowId} {which : PageIndex}

theorem performResumeHeld_of_not_held (port : params[0].toNat = q.val)
    (other : s.ports[q].burst.isHeld = false) :
    performResumeHeld params s = performedFail s .notHeld := by
  rw [performResumeHeld, withPort_of_eq s port]
  split
  · next held => exact nomatch (congrArg Burst.isHeld held).symm.trans other
  all_goals rfl

theorem performResumeHeld_of_held (port : params[0].toNat = q.val)
    (held : s.ports[q].burst = .held r segs holdSet which) :
    performResumeHeld params s = performedOk (s.setBurst q (.queued r segs)).grant := by
  rw [performResumeHeld, withPort_of_eq s port]
  simp only [held]

theorem performCancelHeld_of_not_held (port : params[0].toNat = q.val)
    (other : s.ports[q].burst.isHeld = false) :
    performCancelHeld params s = performedFail s .notHeld := by
  rw [performCancelHeld, withPort_of_eq s port]
  split
  · next held => exact nomatch (congrArg Burst.isHeld held).symm.trans other
  all_goals rfl

theorem performCancelHeld_of_held (port : params[0].toNat = q.val)
    (held : s.ports[q].burst = .held r segs holdSet which) :
    performCancelHeld params s = performedOk (s.decideFault q r
      (segmentRecord q s.ports[q].binding r .watch (segs.segment which))) := by
  rw [performCancelHeld, withPort_of_eq s port]
  simp only [held]

end Held

end Sys2Proof.Machine

namespace Sys2Proof.Proofs

open Sys2Proof.Machine Sys2Proof.Statements

/-- Settles O26: after the check of the number, each command by whether the burst is HELD. -/
theorem heldCommands : Obligations.HeldCommands := by
  refine fun s => ⟨fun taken => ⟨fun above => ?_, fun q port => ⟨fun other => ?_, ?_⟩⟩,
    fun taken => ⟨fun above => ?_, fun q port => ⟨fun other => ?_, ?_⟩⟩⟩
  · exact congrArg Host.Outcome.next (s.performCommand_ends taken (withPort_of_above s above _))
  · exact congrArg Host.Outcome.next
      (s.performCommand_ends taken (performResumeHeld_of_not_held port other))
  · intro r segs holdSet which held
    exact congrArg Host.Outcome.next
      (s.performCommand_ends taken (performResumeHeld_of_held port held))
  · exact congrArg Host.Outcome.next (s.performCommand_ends taken (withPort_of_above s above _))
  · exact congrArg Host.Outcome.next
      (s.performCommand_ends taken (performCancelHeld_of_not_held port other))
  · intro r segs holdSet which seg held present
    rw [← Segments.segment_eq present]
    exact congrArg Host.Outcome.next
      (s.performCommand_ends taken (performCancelHeld_of_held port held))

/-- Settles O33: the hits window by window, then the burst by whether a matching window holds. -/
theorem watchCompare : Obligations.WatchCompare := by
  refine fun s p r segs => ⟨(s.recordHits p r segs).windows,
    fun w => ⟨fun miss => State.recordHits_windows_of_not_hits miss, fun hit => ?_⟩,
    fun notes => ?_, fun ⟨w, hit, hold⟩ => ?_⟩
  · obtain ⟨first, second⟩ := Window.matchedSegment_of_hits hit
    exact ⟨_, first, second, by rw [State.recordHits_windows_of_hits hit, Window.hit_eq]⟩
  · exact ⟨_, s.noteAfter_iff p r.direction segs, State.watchCompare_of_no_hold notes⟩
  · exact ⟨_, _, s.holdSetOf_pairwise p r.direction segs, fun w => State.mem_holdSetOf,
      s.watchSegmentOf_eq_one_iff _ segs, State.watchCompare_of_hold hit hold⟩

/-- Settles O34: the performance is its checks, then one window replaced. -/
theorem setWindow : Obligations.SetWindow := by
  intro s taken
  have run : exec (.setWindow .perform) s = .next (s.performCommand 0x60#8 performSetWindow) := rfl
  dsimp only
  rw [run, s.performCommand_taken _ _ taken, performSetWindow_eq]
  repeat' split
  all_goals rfl

end Sys2Proof.Proofs
end


section
/-! PROOFS. The command unit (sections 10.1 and 10.2): the accesses to the window, the take of the
25 commands, what a performance that does not end with OK leaves, and the completion. -/

namespace Sys2Proof.Machine

open Sys2Proof Sys2Proof.Statements

variable {s : State}

/-! ## The take (R165, R167, R168) -/

theorem hostCommands_eq_commandTable : hostCommands = commandTable := rfl

theorem commandCode_mem_knownCodes_iff (word : Word) :
    commandCode word ∈ knownCodes ↔ word.extractLsb' 0 8 ∈ hostCommands.map Prod.fst := by
  rw [hostCommands_codes]
  rfl

theorem State.takeCommand_of_idle (released : s.chip.resetHeld = false)
    (idle : s.command.status = .idle) (busy : CommandStatus) :
    s.takeCommand busy =
      { s with command := { s.command with status := busy, latched := s.command.params } } := by
  simp [State.takeCommand, released, idle]

theorem State.takeCommand_of_busy (released : s.chip.resetHeld = false)
    (inProgress : s.command.status ≠ .idle) (busy : CommandStatus) :
    s.takeCommand busy = s.latchOverrun := by
  simp [State.takeCommand, released, inProgress]

/-- Each of the 25 commands is the events of one of the performances (R165). -/
theorem exec_hostCommand {e : BitVec 8 × (CommandEvent → Instr)} (mem : e ∈ hostCommands) :
    ∃ perform, (e.1, perform) ∈ hostPerformances ∧
      ∀ event s, exec (e.2 event) s = .next (s.hostCommand e.1 perform event) := by
  simp only [hostCommands, List.mem_cons, List.not_mem_nil, or_false] at mem
  repeat' rcases mem with mem | mem
  all_goals
    refine ⟨_, ?_, fun _ _ => rfl⟩
    simp only [hostPerformances, List.mem_cons, Prod.mk.injEq, or_true, true_or]

/-! ## The writes that are no command (R163, R166) -/

theorem exec_paramWrite_of_released (released : s.chip.resetHeld = false) (k : Fin 6)
    (word : Word) :
    exec (.paramWrite k word) s =
      .next { s with command := { s.command with params := s.command.params.set k word } } :=
  congrArg Host.Outcome.next (if_neg (Bool.eq_false_iff.mp released))

theorem exec_paramWrite_of_held (held : s.chip.resetHeld = true) (k : Fin 6) (word : Word) :
    exec (.paramWrite k word) s = .next s :=
  congrArg Host.Outcome.next (if_pos held)

theorem exec_eventsAcknowledge_of_held (held : s.chip.resetHeld = true) (word : Word) :
    exec (.eventsAcknowledge word) s = .next s :=
  congrArg Host.Outcome.next (if_pos held)

theorem exec_eventEnableWrite_of_held (held : s.chip.resetHeld = true) (word : Word) :
    exec (.eventEnableWrite word) s = .next s :=
  congrArg Host.Outcome.next (if_pos held)

theorem exec_ignoredRegisterWrite {number : Fin 32} (ignored : isWritableWord number = false)
    (word : Word) : exec (.ignoredRegisterWrite number word) s = .next s :=
  if_pos (by simp [Instr.wellFormed, ignored])

/-- While the reset input is held a write to any word of the window is ignored (R163). -/
theorem State.hostWrite_of_held (held : s.chip.resetHeld = true) (number : Fin 32) (word : Word) :
    s.hostWrite number word = .next s := by
  rcases windowWrite_cases number word with
    ⟨rfl, _⟩ | ⟨k, _, eq⟩ | ⟨_, eq⟩ | ⟨_, eq⟩ | ⟨ignored, eq⟩
  · obtain ⟨busy, _, eq⟩ := s.hostWrite_command word
    rw [eq, State.takeCommand_of_held held]
  all_goals rw [State.hostWrite, eq]
  · exact exec_paramWrite_of_held held k word
  · exact exec_eventsAcknowledge_of_held held word
  · exact exec_eventEnableWrite_of_held held word
  · exact exec_ignoredRegisterWrite ignored word

/-! ## The reads of the window (R163) -/

theorem State.hostRead_of_held (held : s.chip.resetHeld = true) (number : Fin 32) :
    s.hostRead number = 0#32 :=
  if_pos held

theorem State.hostRead_param (released : s.chip.resetHeld = false) {number : Fin 32} {k : Fin 6}
    (offset : number.val = 3 + k.val) : s.hostRead number = s.command.params[k] := by
  simp only [State.hostRead, released, offset]
  fin_cases k <;> rfl

theorem State.hostRead_result (released : s.chip.resetHeld = false) {number : Fin 32} {k : Fin 4}
    (offset : number.val = 9 + k.val) : s.hostRead number = s.command.results[k] := by
  simp only [State.hostRead, released, offset]
  fin_cases k <;> rfl

theorem State.hostRead_unused (released : s.chip.resetHeld = false) {number : Fin 32}
    (unused : 26 ≤ number.val) : s.hostRead number = 0#32 := by
  obtain ⟨k, offset⟩ := Nat.exists_eq_add_of_le unused
  simp only [State.hostRead, released, offset]
  rw [Nat.add_comm]
  rfl

theorem State.hostRead_faultHead (released : s.chip.resetHeld = false) {number : Fin 32} (k : Fin 4)
    (offset : number.val = 17 + k.val) : s.hostRead number = (faultHeadWords s.faults)[k] := by
  simp only [State.hostRead, released, offset]
  fin_cases k <;> rfl

/-! ## The outcomes of a performance (R169) -/

/-- What R169 asks of a performance from `s`: it has an outcome and keeps the command unit; when the
outcome is not OK it has changed nothing, and its result words are zero except for OVERLAP and for
SET FRAME LIMIT, code 72h. -/
structure Performed.AnswersFrom (done : Performed) (s : State) (code : BitVec 8) : Prop where
  outcome : done.outcome ≠ .none
  command : done.state.command = s.command
  unchanged : done.outcome ≠ .ok → done.state = s
  zero : done.outcome ≠ .ok → done.outcome ≠ .overlap → code ≠ 0x72#8 → done.results = zeroResults

theorem listFault_ne_none {job : TransferJob} {count limit : Nat} {outcome : CommandOutcome}
    (failed : listFault job count limit = some outcome) : outcome ≠ .none := by
  rintro rfl
  unfold listFault at failed
  repeat' split at failed
  all_goals cases failed

/-- WAKE's takes keep the command unit. -/
theorem foldTake_command (ports : List PortId) :
    (ports.foldl (fun t p => t.tryTake p) s).command = s.command := by
  induction ports generalizing s with
  | nil => rfl
  | cons p rest ih => exact ih.trans (State.tryTake_command s p)

namespace Performed.AnswersFrom

variable {code : BitVec 8} {params : ParamWords}

/-- A performance that ends with OK may change every block but the command unit. -/
theorem ok {done : Performed} (outcome : done.outcome = .ok)
    (command : done.state.command = s.command) : done.AnswersFrom s code :=
  ⟨by rw [outcome]; nofun, command, fun other => absurd outcome other,
    fun other => absurd outcome other⟩

theorem fail {outcome : CommandOutcome} (outcome_ne : outcome ≠ .none) :
    (performedFail s outcome).AnswersFrom s code :=
  ⟨outcome_ne, rfl, fun _ => rfl, fun _ _ _ => rfl⟩

/-- A check that turns the command away, before the rest of its performance. -/
theorem check {failed : Prop} [Decidable failed] {outcome : CommandOutcome} {rest : Performed}
    (outcome_ne : outcome ≠ .none) (h : rest.AnswersFrom s code) :
    (if failed then performedFail s outcome else rest).AnswersFrom s code := by
  split
  · exact fail outcome_ne
  · exact h

theorem withPort {w : Word} {act : PortId → Performed} (h : ∀ p, (act p).AnswersFrom s code) :
    (withPort w s act).AnswersFrom s code := by
  unfold Machine.withPort
  split
  · exact h _
  · exact fail nofun

theorem performDefineContext : (performDefineContext params s).AnswersFrom s code := by
  unfold Machine.performDefineContext
  split
  · refine check nofun (check nofun ?_)
    split
    · exact ⟨nofun, rfl, fun _ => rfl, fun _ other => absurd rfl other⟩
    · exact ok rfl rfl
  · exact fail nofun

theorem performDeleteContext : (performDeleteContext params s).AnswersFrom s code := by
  rw [performDeleteContext_eq]
  split
  · exact check nofun (check nofun (ok rfl rfl))
  · exact fail nofun

theorem performReadContext : (performReadContext params s).AnswersFrom s code := by
  rw [performReadContext_eq]
  split
  · exact ok rfl rfl
  · exact fail nofun

theorem performEntryWrite (stored : Check) :
    (performEntryWrite stored params s).AnswersFrom s code := by
  rw [performEntryWrite_eq]
  split
  · exact check nofun (check nofun (check nofun (ok rfl (State.storeWrite_command ..))))
  · exact fail nofun

theorem performProbe : (performProbe params s).AnswersFrom s code := by
  rw [performProbe_eq]
  split
  · exact check nofun (check nofun (ok rfl (State.plainRead_command ..)))
  · exact fail nofun

theorem performBindPort : (performBindPort params s).AnswersFrom s code := by
  refine withPort fun p => ?_
  split
  · exact fail nofun
  · exact check nofun (check nofun (check nofun (ok rfl rfl)))

theorem performReleasePort : (performReleasePort params s).AnswersFrom s code := by
  refine withPort fun p => ?_
  split
  · exact fail nofun
  · exact check nofun (ok rfl rfl)

theorem performResumeHeld : (performResumeHeld params s).AnswersFrom s code := by
  refine withPort fun p => ?_
  split
  · exact ok rfl (State.grant_command _)
  all_goals exact fail nofun

theorem performCancelHeld : (performCancelHeld params s).AnswersFrom s code := by
  refine withPort fun p => ?_
  split
  · exact ok rfl (State.decideFault_command ..)
  all_goals exact fail nofun

theorem performPopFault : (performPopFault params s).AnswersFrom s code := by
  unfold Machine.performPopFault
  split
  · exact fail nofun
  · exact ok rfl (State.handOff_command _)

theorem performStart {context firstPage count : Word} {fence : Option Bool}
    {job : Option TransferJob} :
    (performStart context firstPage count fence job s).AnswersFrom s code := by
  unfold Machine.performStart
  refine check nofun (check nofun ?_)
  split
  · refine check nofun (check nofun ?_)
    split
    · next failed => exact fail (listFault_ne_none failed)
    · exact ok rfl (State.startTransfer_command ..)
  · exact fail nofun

theorem performSetWindow : (performSetWindow params s).AnswersFrom s code := by
  rw [performSetWindow_eq]
  split
  · exact check nofun (ok rfl rfl)
  · exact fail nofun

theorem performReadWindow : (performReadWindow params s).AnswersFrom s code := by
  rw [performReadWindow_eq]
  split
  · exact ok rfl rfl
  · exact fail nofun

theorem performQuiesce : (performQuiesce params s).AnswersFrom s code := by
  unfold Machine.performQuiesce
  split
  · exact ok rfl (State.reachQuiet_command _)
  · exact fail nofun

theorem performWake : (performWake params s).AnswersFrom s code := by
  unfold Machine.performWake
  exact check nofun (ok rfl (foldTake_command (s := s.setMode .running) allPorts))

theorem performSoftReset : (performSoftReset params s).AnswersFrom s code :=
  ok rfl (by simp only [Machine.performSoftReset, performedOk, State.softReset])

/-- Every outcome of SET FRAME LIMIT comes with the limit in force (R183). -/
theorem performSetFrameLimit : (performSetFrameLimit params s).AnswersFrom s 0x72#8 := by
  unfold Machine.performSetFrameLimit
  split
  · exact ⟨nofun, rfl, fun _ => rfl, fun _ _ other => absurd rfl other⟩
  · split
    · exact ⟨nofun, rfl, fun _ => rfl, fun _ _ other => absurd rfl other⟩
    · exact ok rfl rfl

end Performed.AnswersFrom

/-- Every performance has an outcome of R169, and one other than OK has changed nothing. -/
theorem performance_answersFrom (s : State) :
    ∀ e ∈ hostPerformances, ∀ params, (e.2 params s).AnswersFrom s e.1 := by
  simp only [hostPerformances, List.forall_mem_cons]
  exact ⟨fun _ => .performDefineContext, fun _ => .performDeleteContext,
    fun _ => .performReadContext, fun _ => .performEntryWrite .good,
    fun _ => .performEntryWrite .bad, fun _ => .performProbe, fun _ => .performBindPort,
    fun _ => .performReleasePort, fun _ => .withPort fun _ => .ok rfl rfl,
    fun _ => .withPort fun _ => .ok rfl (State.tryTake_command ..),
    fun _ => .withPort fun _ => .ok rfl rfl, fun _ => .withPort fun _ => .ok rfl rfl,
    fun _ => .performResumeHeld, fun _ => .performCancelHeld, fun _ => .performPopFault,
    fun _ => .performStart, fun _ => .performStart, fun _ => .performStart,
    fun _ => .check nofun (.ok rfl (State.abort_command s)), fun _ => .performSetWindow,
    fun _ => .performReadWindow, fun _ => .performQuiesce,
    fun _ => .performWake, fun _ => .performSetFrameLimit,
    fun _ => .performSoftReset, nofun⟩

end Sys2Proof.Machine

namespace Sys2Proof.Proofs

open Sys2Proof.Machine Sys2Proof.Statements

/-- Settles O5: the write is the take of the command with the code, and the form that names take and
performance is the one after the other. -/
theorem takeOfEveryCommand : Obligations.TakeOfEveryCommand := by
  intro e mem s
  obtain ⟨perform, _, run⟩ := exec_hostCommand mem
  refine ⟨fun word code => ?_, run .take s, fun t taken => ?_⟩
  · rw [State.hostWrite, show windowWrite 2 word = commandWrite word from rfl,
      commandWrite_known (hostCommands_eq_commandTable ▸ mem) code]
  · obtain rfl : s.takeCommand (.taken e.1) = t := by
      rw [run .take s] at taken
      exact Host.Outcome.next.inj taken
    rw [run .whole s, run .perform]
    unfold State.hostCommand
    exact apply_ite _ _ _ _

/-- Settles O6: the completion by its one branch. -/
theorem completion : Obligations.Completion := by
  intro s code outcome results performed
  simp only [exec, execCommandUnitCompletion, performed]

/-- Settles O7: what R169 asks holds of each of the 25 performances. -/
theorem failedCommandChangesNothing : Obligations.FailedCommandChangesNothing := by
  intro e mem s taken
  obtain ⟨perform, performance, run⟩ := exec_hostCommand mem
  have answers := performance_answersFrom s _ performance s.command.latched
  refine ⟨_, _, _, (run .perform s).trans
      (congrArg Host.Outcome.next (s.performCommand_taken e.1 perform taken)), rfl,
    congrArg (·.params) answers.command, answers.outcome,
    fun other => ⟨?_, answers.zero other⟩⟩
  rw [answers.unchanged other]
  rfl

/-- Settles O8: the take of an unknown code leaves the outcome and the results that the completion
writes. -/
theorem unknownCode : Obligations.UnknownCode := by
  intro s word unknown idle released
  have code := mt (commandCode_mem_knownCodes_iff word).mp unknown
  have run : exec (.unknownCommand word) s = .next
      (s.takeCommand (.performed (commandCode word) .unknown zeroResults)) :=
    exec_unknownCommand code s
  refine ⟨_, run, ?_, ?_⟩
  · rw [State.hostWrite, show windowWrite 2 word = commandWrite word from rfl,
      commandWrite_unknown code, run]
  · rw [State.takeCommand_of_idle released idle]
    rfl

/-- Settles O9: every write to COMMAND is a take, which BUSY and the reset input turn away. -/
theorem busyWriteDiscarded : Obligations.BusyWriteDiscarded := by
  intro s word
  refine ⟨fun inProgress released => ⟨?_, ?_⟩,
    fun held => ⟨?_, State.hostWrite_of_held held 2 word⟩⟩
  · exact congrArg Host.Outcome.next (if_neg (by simp [inProgress, released]))
  · obtain ⟨busy, _, eq⟩ := s.hostWrite_command word
    rw [eq, State.takeCommand_of_busy released inProgress]
    rfl
  · exact congrArg Host.Outcome.next (if_pos (Or.inr held))

/-- Settles O10: the word is replaced, is read back, and is what the next take latches. -/
theorem parameterWrite : Obligations.ParameterWrite := by
  intro s k word released
  have run := exec_paramWrite_of_released released k word
  have replaced : (s.command.params.set k word)[k] = word := Vector.getElem_set_self k.isLt
  refine ⟨_, run, rfl, fun number offset => ⟨?_, ?_⟩, rfl, fun e mem idle => ?_⟩
  · rw [State.hostWrite, windowWrite_param k offset, run]
  · rw [State.hostRead_param (by exact released) offset]
    exact replaced
  · refine ⟨_, exec_take (hostCommands_eq_commandTable ▸ mem) _, ?_⟩
    rw [State.takeCommand_of_idle (by exact released) (by exact idle)]
    exact replaced

/-- Settles O11: a word that is not writable picks the ignored write; while the reset input is held
every write is ignored and every read zero. -/
theorem ignoredWrites : Obligations.IgnoredWrites := by
  refine ⟨fun s number word readOnly => ?_, fun s held =>
    ⟨State.hostRead_of_held held, State.hostWrite_of_held held, exec_paramWrite_of_held held,
      exec_eventsAcknowledge_of_held held, exec_eventEnableWrite_of_held held,
      fun word unknown => ?_⟩⟩
  · have ignored : isWritableWord number = false := by
      rw [Bool.eq_false_iff, Ne, isWritableWord_iff]
      omega
    refine ⟨exec_ignoredRegisterWrite ignored word, ?_⟩
    rw [State.hostWrite, windowWrite_ignored ignored, exec_ignoredRegisterWrite ignored]
  · rw [exec_unknownCommand (mt (commandCode_mem_knownCodes_iff word).mp unknown),
      State.takeCommand_of_held held]

end Sys2Proof.Proofs
end

section
/-! PROOFS. Layouts of words (sections 10.5 and 10.7): a word as a list of fields that share no bit,
the number that each field shows, and the bits between the fields; and the words of chip control,
the command unit, the map store and the engine. -/

namespace Sys2Proof.Machine

open Sys2Proof Sys2Proof.Statements

/-! ## Fields -/

/-- A field of a word: `width` bits from bit `lo` on, which show `value`. -/
structure BitField where
  lo : Nat
  width : Nat
  value : Nat

/-- The word that a list of fields makes. -/
def layoutWord (fields : List BitField) : Word :=
  joinFields (fields.map fun f => Machine.place f.lo f.value)

/-- The value of a field fits its bits. -/
abbrev BitField.Fits (f : BitField) : Prop := f.value < 2 ^ f.width

/-- The field's bits of a word show its value. -/
abbrev BitField.ShownIn (word : Word) (f : BitField) : Prop := bits word f.lo f.width = f.value

/-- Each field's bits of a word show its value, and `more` holds. -/
def Shows (word : Word) (more : Prop) : List BitField → Prop
  | [] => more
  | f :: rest => f.ShownIn word ∧ Shows word more rest

/-- Two fields share no bit. -/
def BitField.clearOf (f g : BitField) : Bool :=
  decide (f.lo + f.width ≤ g.lo) || decide (g.lo + g.width ≤ f.lo)

/-- The fields lie inside the word and no two share a bit. -/
def apart : List BitField → Bool
  | [] => true
  | f :: rest => decide (f.lo + f.width ≤ 32) && rest.all f.clearOf && apart rest

/-- The field lies inside one of the named stretches of bits, given as `(lo, width)`. -/
def BitField.namedIn (names : List (Nat × Nat)) (f : BitField) : Bool :=
  names.any fun n => decide (n.1 ≤ f.lo) && decide (f.lo + f.width ≤ n.1 + n.2)

theorem BitField.clearOf_iff (f g : BitField) :
    f.clearOf g = true ↔ f.lo + f.width ≤ g.lo ∨ g.lo + g.width ≤ f.lo := by
  simp only [BitField.clearOf, Bool.or_eq_true, decide_eq_true_eq]

theorem apart_cons_iff (f : BitField) (rest : List BitField) :
    apart (f :: rest) = true ↔
      f.lo + f.width ≤ 32 ∧ (∀ g ∈ rest, f.clearOf g = true) ∧ apart rest = true := by
  simp only [apart, Bool.and_eq_true, decide_eq_true_eq, List.all_eq_true, and_assoc]

/-- A field that fits shows nothing outside its own bits. -/
theorem BitField.Fits.getLsbD_eq_false {f : BitField} (fits : f.Fits) {i : Nat}
    (outside : i < f.lo ∨ f.lo + f.width ≤ i) : (Machine.place f.lo f.value).getLsbD i = false :=
  place_outside f.lo f.value f.width i fits outside

theorem layoutWord_cons_getLsbD (f : BitField) (rest : List BitField) (i : Nat) :
    (layoutWord (f :: rest)).getLsbD i =
      ((Machine.place f.lo f.value).getLsbD i || (layoutWord rest).getLsbD i) := by
  simp only [layoutWord, List.map_cons, joinFields_getLsbD, List.any_cons]

/-- A bit outside every field is 0. -/
theorem layoutWord_getLsbD_eq_false {fields : List BitField} (fit : ∀ f ∈ fields, f.Fits) {i : Nat}
    (outside : ∀ f ∈ fields, i < f.lo ∨ f.lo + f.width ≤ i) :
    (layoutWord fields).getLsbD i = false := by
  induction fields with
  | nil => simp [layoutWord, joinFields]
  | cons f rest ih =>
    rw [List.forall_mem_cons] at fit outside
    rw [layoutWord_cons_getLsbD, fit.1.getLsbD_eq_false outside.1, ih fit.2 outside.2,
      Bool.or_false]

/-- In a layout whose fields fit and share no bit, a bit of a field is that of its value. -/
theorem layoutWord_getLsbD_of_mem {fields : List BitField} (fit : ∀ f ∈ fields, f.Fits)
    (separate : apart fields = true) {f : BitField} (mem : f ∈ fields) {j : Nat}
    (inside : j < f.width) :
    (layoutWord fields).getLsbD (f.lo + j) = f.value.testBit j := by
  induction fields with
  | nil => cases mem
  | cons g rest ih =>
    rw [List.forall_mem_cons] at fit
    simp only [apart_cons_iff, BitField.clearOf_iff] at separate
    obtain ⟨fits, restFit⟩ := fit
    obtain ⟨below, clear, restSeparate⟩ := separate
    rw [layoutWord_cons_getLsbD]
    rcases List.mem_cons.mp mem with rfl | mem
    · have behind : (layoutWord rest).getLsbD (f.lo + j) = false :=
        layoutWord_getLsbD_eq_false restFit fun g mem => by have := clear g mem; omega
      rw [behind, Bool.or_false, place_own _ _ _ (by omega)]
    · have before : (Machine.place g.lo g.value).getLsbD (f.lo + j) = false :=
        fits.getLsbD_eq_false (by have := clear f mem; omega)
      rw [before, Bool.false_or, ih restFit restSeparate mem]

/-- A field of a word as a number, by its bits. -/
theorem bits_eq_of_getLsbD {w : Word} {lo n v : Nat} (below : v < 2 ^ n)
    (own : ∀ j < n, w.getLsbD (lo + j) = v.testBit j) : bits w lo n = v := by
  have single : joinFields [w] = w := BitVec.or_zero
  exact single ▸ joinFields_field [] w [] lo n v below own nofun

/-- A word is the layout of fields that fit and share no bit. -/
structure Layout (w : Word) (fields : List BitField) : Prop where
  eq : w = layoutWord fields
  separate : apart fields = true
  fit : fields.Forall BitField.Fits

namespace Layout

variable {w : Word} {fields : List BitField}

theorem shown_of_mem (h : Layout w fields) {f : BitField} (mem : f ∈ fields) : f.ShownIn w := by
  have fit := List.forall_iff_forall_mem.mp h.fit
  rw [h.eq]
  exact bits_eq_of_getLsbD (fit f mem) fun j inside =>
    layoutWord_getLsbD_of_mem fit h.separate mem inside

theorem shows_part (h : Layout w fields) {part : List BitField} (sub : part ⊆ fields) {more : Prop}
    (rest : more) : Shows w more part := by
  induction part with
  | nil => exact rest
  | cons f behind ih =>
    obtain ⟨mem, sub⟩ := List.cons_subset.mp sub
    exact ⟨h.shown_of_mem mem, ih sub⟩

theorem shows (h : Layout w fields) {more : Prop} (rest : more) : Shows w more fields :=
  h.shows_part (List.Subset.refl fields) rest

/-- The word as the host reads it. -/
theorem read (h : Layout w fields) {s : State} {number : Fin 32} (eq : s.hostRead number = w) :
    Layout (s.hostRead number) fields :=
  eq ▸ h

/-- Every bit outside the named stretches is 0 when every field lies inside one of them. -/
theorem unnamed (h : Layout w fields) {names : List (Nat × Nat)}
    (named : fields.all (BitField.namedIn names) = true) : unnamedZero w names := by
  intro i outside
  rw [h.eq, bits, bit_as_number,
    layoutWord_getLsbD_eq_false (List.forall_iff_forall_mem.mp h.fit) fun f mem => ?_]
  · rfl
  · have inside := List.all_eq_true.mp named f mem
    simp only [BitField.namedIn, List.any_eq_true, Bool.and_eq_true, decide_eq_true_eq] at inside
    obtain ⟨n, mem, _, _⟩ := inside
    have := outside n mem
    omega

/-- Bits between the fields show 0. -/
theorem gap (h : Layout w fields) {lo n : Nat}
    (clear : fields.all (BitField.clearOf ⟨lo, n, 0⟩) = true) : bits w lo n = 0 := by
  rw [h.eq]
  refine bits_eq_of_getLsbD (Nat.two_pow_pos n) fun j inside => ?_
  rw [Nat.zero_testBit,
    layoutWord_getLsbD_eq_false (List.forall_iff_forall_mem.mp h.fit) fun f mem => ?_]
  have outside : lo + n ≤ f.lo ∨ f.lo + f.width ≤ lo :=
    (BitField.clearOf_iff _ f).mp (List.all_eq_true.mp clear f mem)
  omega

end Layout

/-- A field below all others shows its value, whether the others fit or not. -/
theorem shown_below {f : BitField} {rest : List BitField} (fits : f.Fits)
    (inside : f.lo + f.width ≤ 32) (below : ∀ g ∈ rest, f.lo + f.width ≤ g.lo) :
    f.ShownIn (layoutWord (f :: rest)) := by
  refine bits_eq_of_getLsbD fits fun j _ => ?_
  have behind : (layoutWord rest).getLsbD (f.lo + j) = false := by
    rw [layoutWord, joinFields_getLsbD, List.any_map]
    refine List.any_eq_false.mpr fun g mem => ?_
    have := below g mem
    simp [place_getLsbD, show ¬ g.lo ≤ f.lo + j by omega]
  rw [layoutWord_cons_getLsbD, behind, Bool.or_false, place_own _ _ _ (by omega)]

/-! ## Words as layouts -/

/-- The largest number that a field of `k` bits is given fits it. -/
theorem lt_two_pow_of_le {n most k : Nat} (le : n ≤ most)
    (fits : Nat.ble (most + 1) (2 ^ k) = true) : n < 2 ^ k :=
  Nat.lt_of_le_of_lt le (Nat.le_of_ble_eq_true fits)

theorem place_zero (lo : Nat) : Machine.place lo 0 = 0#32 := by
  simp [Machine.place]

/-- A number placed at bit 0 is the whole word. -/
theorem place_toNat {n : Nat} (below : n < 2 ^ 32) : (Machine.place 0 n).toNat = n := by
  rw [Machine.place, BitVec.shiftLeft_zero, BitVec.toNat_ofNat, Nat.mod_eq_of_lt below]

theorem placeBit_eq_place (lo : Nat) (b : Bool) : placeBit lo b = Machine.place lo (bit b) := by
  cases b
  · exact (place_zero lo).symm
  · rfl

theorem bit_lt_two (b : Bool) : bit b < 2 := by cases b <;> decide

theorem bit_eq_one_iff (b : Bool) : bit b = 1 ↔ b = true := by cases b <;> simp

theorem directionBit_eq (d : Direction) : directionBit d = decide (d = .write) := by
  cases d <;> rfl

theorem joinFields_nil : joinFields [] = 0#32 := rfl

theorem joinFields_cons (w : Word) (rest : List Word) :
    joinFields (w :: rest) = w ||| joinFields rest := rfl

theorem joinFields_append (before behind : List Word) :
    joinFields (before ++ behind) = joinFields before ||| joinFields behind := by
  induction before with
  | nil => exact BitVec.zero_or.symm
  | cons w rest ih => rw [List.cons_append, joinFields_cons, ih, joinFields_cons, BitVec.or_assoc]

/-- Parts joined each on its own and then with one another. -/
theorem joinFields_flatMap {α : Type} (parts : List α) (fields : α → List Word) :
    joinFields (parts.map fun x => joinFields (fields x)) = joinFields (parts.flatMap fields) := by
  induction parts with
  | nil => rfl
  | cons x rest ih => rw [List.map_cons, joinFields_cons, ih, List.flatMap_cons, joinFields_append]

/-- The fields of a word of flags: one bit each. -/
def flagFields {α : Type} (flags : List α) (lo : α → Nat) (value : α → Bool) : List BitField :=
  flags.map fun x => ⟨lo x, 1, bit (value x)⟩

theorem flagFields_fit {α : Type} (flags : List α) (lo : α → Nat) (value : α → Bool) :
    (flagFields flags lo value).Forall BitField.Fits := by
  rw [flagFields, List.forall_map_iff, List.forall_iff_forall_mem]
  exact fun x _ => bit_lt_two (value x)

theorem flagFields_eq {α : Type} (flags : List α) (lo : α → Nat) (value : α → Bool) :
    joinFields (flags.map fun x => placeBit (lo x) (value x)) =
      layoutWord (flagFields flags lo value) := by
  simp only [layoutWord, flagFields, List.map_map, placeBit_eq_place, Function.comp_def]

/-- A list of members shown as set bits: a bit for each of all members, set when it is listed. -/
theorem joinFields_ones {α : Type} [BEq α] [LawfulBEq α] {all : List α} (mem_all : ∀ x, x ∈ all)
    (listed : List α) (lo : α → Nat) :
    joinFields (listed.map fun x => Machine.place (lo x) 1) =
      layoutWord (flagFields all lo listed.contains) := by
  have one (x : α) : Machine.place (lo x) 1 = placeBit (lo x) true := rfl
  refine BitVec.eq_of_getLsbD_eq fun i _ => Bool.eq_iff_iff.mpr ?_
  simp [← flagFields_eq, joinFields_getLsbD, one, placeBit_getLsbD, mem_all, and_assoc]

/-! ## Optional fields: zero when absent (R172, R173, R175) -/

theorem option_map_getD_lt {α : Type} {o : Option α} {f : α → Nat} {bound : Nat}
    (positive : 0 < bound) (below : ∀ x ∈ o, f x < bound) : (o.map f).getD 0 < bound := by
  cases o with
  | none => exact positive
  | some x => exact below x rfl

/-- Two optional fields, present together. -/
theorem elim_joinFields {α : Type} (o : Option α) (lo hi : Nat) (f g : α → Nat) :
    (o.elim 0#32 fun x => joinFields [Machine.place lo (f x), Machine.place hi (g x)]) =
      joinFields [Machine.place lo ((o.map f).getD 0), Machine.place hi ((o.map g).getD 0)] := by
  cases o with
  | none =>
    show 0#32 = joinFields [Machine.place lo 0, Machine.place hi 0]
    rw [place_zero, place_zero]
    rfl
  | some x => rfl

/-- The presence bit of an optional field. -/
theorem presence_eq {α : Type} (o : Option α) : (o.map fun _ => 1).getD 0 = bit o.isSome := by
  cases o <;> rfl

/-- An optional field without a presence bit. -/
theorem elim_place {α : Type} (o : Option α) (lo : Nat) (f : α → Nat) :
    (o.elim 0#32 fun x => Machine.place lo (f x)) = Machine.place lo ((o.map f).getD 0) := by
  cases o with
  | none => exact (place_zero lo).symm
  | some x => rfl

/-! ## Codes (R169, R171, R172, R173, R175) -/

theorem Mode.code_lt (m : Mode) : m.code < 4 := by cases m <;> decide
theorem ResetCause.code_lt (c : ResetCause) : c.code < 4 := by cases c <;> decide
theorem CommandOutcome.code_lt (o : CommandOutcome) : o.code < 32 := by cases o <;> decide
theorem OutcomeState.code_lt (o : OutcomeState) : o.code < 8 := by cases o <;> decide
theorem TransferKind.code_lt (k : TransferKind) : k.code < 4 := by cases k <;> decide
theorem TransferMark.code_lt (m : TransferMark) : m.code < 4 := by cases m <;> decide
theorem FaultKind.code_lt (k : FaultKind) : k.code < 16 := by cases k <;> decide
theorem PageIndex.number_lt (i : PageIndex) : i.number < 4 := by cases i <;> decide
theorem EngineState.code_lt (e : EngineState) : e.code < 4 := by cases e <;> simp [EngineState.code]
theorem Burst.code_lt (b : Burst) : b.code < 8 := by cases b <;> simp [Burst.code]

theorem portNumber_lt (p : PortId) : p.val < 8 := p.isLt.trans (by decide)

/-! ## The words of the status block (R171, R173) -/

/-- The fields of MODE (R171). -/
def modeFields (chip : ChipControl) : List BitField :=
  [⟨0, 2, chip.mode.code⟩, ⟨8, 2, chip.resetCause.code⟩]

theorem modeWord_layout (chip : ChipControl) : Layout (modeWord chip) (modeFields chip) :=
  ⟨rfl, rfl, chip.mode.code_lt, chip.resetCause.code_lt⟩

/-- The fields of COMMAND on read (R171). -/
def commandFields (c : CommandUnit) : List BitField :=
  [⟨0, 8, c.lastCode.toNat⟩, ⟨8, 5, c.outcome.code⟩, ⟨31, 1, bit (decide (c.status ≠ .idle))⟩]

theorem commandWord_layout (c : CommandUnit) : Layout (commandWord c) (commandFields c) := by
  refine ⟨?_, rfl, c.lastCode.isLt, c.outcome.code_lt, bit_lt_two _⟩
  rw [commandWord, placeBit_eq_place]
  rfl

theorem eventsWord_layout (s : State) :
    Layout (eventsWord s) (flagFields s.eventFlags (·.1) (·.2.1)) :=
  ⟨s.eventsWord_eq.trans (flagFields_eq ..), rfl, flagFields_fit ..⟩

theorem enablesWord_layout (s : State) :
    Layout (enablesWord s.chip.enables) (flagFields s.eventFlags (·.1) (·.2.2)) :=
  ⟨s.enablesWord_eq.trans (flagFields_eq ..), rfl, flagFields_fit ..⟩

/-- The fields of STORE ERROR INDEX with an index recorded (R171). -/
def storeErrorFields (index : Nat) : List BitField := [⟨0, 11, index⟩, ⟨31, 1, 1⟩]

theorem storeErrorWord_layout {index : Nat} (inside : index < 2048) :
    Layout (storeErrorWord (some index)) (storeErrorFields index) :=
  ⟨rfl, rfl, inside, one_lt_two⟩

/-- The fields of TRANSFER OUTCOME word 0 (R173). -/
def transferOutcomeFields (e : Engine) : List BitField :=
  [⟨0, 3, e.outcome.state.code⟩, ⟨4, 2, (e.outcome.kind.map TransferKind.code).getD 0⟩,
    ⟨6, 2, e.state.code⟩, ⟨8, 4, e.outcome.context.val⟩, ⟨12, 4, e.outcome.marksLost⟩,
    ⟨16, 11, e.outcome.firstPage⟩, ⟨31, 1, bit e.outcome.failingAddress.isSome⟩]

theorem transferOutcomeWord_layout {e : Engine} (firstPage : e.outcome.firstPage < 2048)
    (marksLost : e.outcome.marksLost ≤ 8) :
    Layout (transferOutcomeWord e 0) (transferOutcomeFields e) := by
  refine ⟨?_, rfl, e.outcome.state.code_lt,
    option_map_getD_lt (Nat.two_pow_pos 2) fun k _ => k.code_lt, e.state.code_lt,
    e.outcome.context.isLt, lt_two_pow_of_le marksLost rfl, firstPage, bit_lt_two _⟩
  have parts : transferOutcomeWord e 0 = joinFields [Machine.place 0 e.outcome.state.code,
      e.outcome.kind.elim 0#32 fun k => Machine.place 4 k.code, Machine.place 6 e.state.code,
      Machine.place 8 e.outcome.context.val, Machine.place 12 e.outcome.marksLost,
      Machine.place 16 e.outcome.firstPage, placeBit 31 e.outcome.failingAddress.isSome] := by
    obtain ⟨_, _, _, kind, _⟩ := e
    cases kind <;> rfl
  rw [parts, placeBit_eq_place, elim_place]
  rfl

/-- The fields of TRANSFER OUTCOME word 1 (R173). -/
def transferProgressFields (e : Engine) : List BitField :=
  [⟨0, 12, e.outcome.count⟩, ⟨16, 12, e.outcome.done⟩]

theorem transferProgressWord_layout {e : Engine} (count : e.outcome.count ≤ 2048)
    (done : e.outcome.done ≤ 2048) :
    Layout (transferOutcomeWord e 1) (transferProgressFields e) :=
  ⟨rfl, rfl, lt_two_pow_of_le count rfl, lt_two_pow_of_le done rfl⟩

end Sys2Proof.Machine

namespace Sys2Proof.Proofs

open Sys2Proof.Machine Sys2Proof.Statements

/-- Settles O14: each word is a layout of fields, which it shows, with nothing between them. -/
theorem statusWords : Obligations.StatusWords := by
  intro s released
  have held := Bool.eq_false_iff.mp released
  have mode := (modeWord_layout s.chip).read (number := 1) (if_neg held)
  have command := (commandWord_layout s.command).read (number := 2) (if_neg held)
  have events := (eventsWord_layout s).read (number := 13) (if_neg held)
  have enables := (enablesWord_layout s).read (number := 14) (if_neg held)
  have storeError : s.hostRead 15 = storeErrorWord s.store.errorIndex := if_neg held
  refine ⟨if_neg held, mode.shows (mode.unnamed rfl), command.shows (command.unnamed rfl),
    fun k number => State.hostRead_param released, fun k number => State.hostRead_result released,
    fun number => State.hostRead_unused released, events.shows (events.unnamed rfl),
    enables.shows (enables.unnamed rfl), fun none => ?_, fun index found inside => ?_,
    fun firstPage marksLost => ?_, fun count done => ?_, if_neg held,
    rfl, rfl, rfl, rfl, fun _ _ => ⟨rfl, rfl, rfl⟩, rfl⟩
  · rw [storeError, none]
    rfl
  · rw [Option.mem_def.mp found] at storeError
    have layout := (storeErrorWord_layout inside).read storeError
    exact layout.shows (layout.unnamed rfl)
  · have layout :=
      (transferOutcomeWord_layout firstPage marksLost).read (number := 21) (if_neg held)
    exact layout.shows (layout.unnamed rfl)
  · have layout := (transferProgressWord_layout count done).read (number := 22) (if_neg held)
    exact layout.shows (layout.unnamed rfl)

end Sys2Proof.Proofs
end

section
/-! PROOFS. The words of the ports and the fault queue (R172) as layouts of fields. -/

namespace Sys2Proof.Machine

open Sys2Proof Sys2Proof.Statements

/-! ## PORT SUMMARY and STALL ORDER (R172) -/

/-- The fields of one port in PORT SUMMARY. -/
def portSummaryPart (s : State) (p : PortId) : List BitField :=
  [⟨5 * p.val, 3, s.ports[p].burst.code⟩,
    ⟨5 * p.val + 3, 1, bit (decide (s.ports[p].gate = .admitted))⟩,
    ⟨5 * p.val + 4, 1, bit s.ports[p].binding.isSome⟩]

/-- The fields of PORT SUMMARY (R172). -/
def portSummaryFields (s : State) : List BitField := allPorts.flatMap (portSummaryPart s)

theorem portSummaryWord_layout (s : State) : Layout (portSummaryWord s) (portSummaryFields s) := by
  refine ⟨?_, rfl, List.forall_iff_forall_mem.mpr fun f mem => ?_⟩
  · simp only [portSummaryWord, portSummaryBits, placeBit_eq_place, joinFields_flatMap, layoutWord,
      portSummaryFields, portSummaryPart, List.map_flatMap, List.map_cons, List.map_nil]
  · simp only [portSummaryFields, portSummaryPart, List.mem_flatMap, List.mem_cons,
      List.not_mem_nil, or_false] at mem
    obtain ⟨p, _, rfl | rfl | rfl⟩ := mem
    · exact s.ports[p].burst.code_lt
    · exact bit_lt_two _
    · exact bit_lt_two _

/-- The port in a place of STALL ORDER, Fh in an empty one. -/
def stallPlace (q : FaultQueue) (k : Nat) : Nat := ((q.stalled[k]?).map fun e => e.1.val).getD 15

theorem stallPlace_lt (q : FaultQueue) (k : Nat) : stallPlace q k < 16 := by
  unfold stallPlace
  cases q.stalled[k]? with
  | none => decide
  | some e => exact e.1.isLt.trans (by decide)

/-- The fields of STALL ORDER (R172). -/
def stallOrderFields (q : FaultQueue) : List BitField :=
  [0, 1, 2, 3, 4, 5].map fun k => ⟨4 * k, 4, stallPlace q k⟩

theorem stallOrderWord_layout (q : FaultQueue) :
    Layout (stallOrderWord q) (stallOrderFields q) := by
  refine ⟨?_, rfl, stallPlace_lt q 0, stallPlace_lt q 1, stallPlace_lt q 2, stallPlace_lt q 3,
    stallPlace_lt q 4, stallPlace_lt q 5⟩
  unfold stallOrderWord layoutWord stallOrderFields
  rw [List.map_map]
  refine congrArg joinFields (List.map_congr_left fun k _ => ?_)
  simp only [Function.comp_apply, stallPlace]
  cases q.stalled[k]? <;> rfl

/-! ## The fault queue (R172) -/

/-- The fields of FAULT DEPTH (R172). -/
def faultDepthFields (q : FaultQueue) : List BitField :=
  [⟨0, 5, q.records.length⟩, ⟨8, 3, q.stalled.length⟩]

theorem faultDepthWord_layout {q : FaultQueue} (records : q.records.length ≤ 16)
    (stalled : q.stalled.length ≤ 6) : Layout (faultDepthWord q) (faultDepthFields q) :=
  ⟨rfl, rfl, lt_two_pow_of_le records rfl, lt_two_pow_of_le stalled rfl⟩

/-- The fields of FAULT HEAD word 0 (R172). -/
def faultFields0 (q : QueuedFault) : List BitField :=
  [⟨0, 16, q.seq.toNat⟩, ⟨16, 4, q.record.kind.code⟩, ⟨20, 3, q.record.port.val⟩,
    ⟨23, 1, bit (decide (q.record.direction = .write))⟩,
    ⟨24, 4, (q.record.context.map Fin.val).getD 0⟩, ⟨28, 1, bit q.record.context.isSome⟩,
    ⟨29, 2, (q.record.pageIndex.map PageIndex.number).getD 0⟩]

/-- FAULT HEAD word 0, part by part. -/
theorem faultWords0_eq (q : QueuedFault) :
    (faultWords q)[0] = joinFields [Machine.place 0 q.seq.toNat,
      Machine.place 16 q.record.kind.code, Machine.place 20 q.record.port.val,
      placeBit 23 (directionBit q.record.direction),
      q.record.context.elim 0#32 fun c => joinFields [Machine.place 24 c.val, Machine.place 28 1],
      q.record.pageIndex.elim 0#32 fun i => Machine.place 29 i.number] := by
  obtain ⟨seq, kind, port, context, direction, address, length, pageIndex, storeIndex, frame⟩ := q
  cases context <;> cases pageIndex <;> rfl

theorem faultWords0_layout (q : QueuedFault) : Layout (faultWords q)[0] (faultFields0 q) := by
  refine ⟨?_, rfl, q.seq.isLt, q.record.kind.code_lt, portNumber_lt _,
    bit_lt_two _, option_map_getD_lt (Nat.two_pow_pos 4) fun c _ => c.isLt, bit_lt_two _,
    option_map_getD_lt (Nat.two_pow_pos 2) fun i _ => i.number_lt⟩
  rw [faultWords0_eq, placeBit_eq_place, directionBit_eq, elim_joinFields, presence_eq, elim_place]
  simp only [layoutWord, faultFields0, List.map_cons, List.map_nil, joinFields_cons, joinFields_nil,
    BitVec.or_assoc, BitVec.zero_or]

/-- The fields of FAULT HEAD word 2 (R172). -/
def faultFields2 (q : QueuedFault) : List BitField :=
  [⟨0, 7, q.record.length.toNat⟩, ⟨16, 11, q.record.storeIndex.getD 0⟩,
    ⟨31, 1, bit q.record.storeIndex.isSome⟩]

theorem faultWords2_eq (q : QueuedFault) : (faultWords q)[2] = layoutWord (faultFields2 q) := by
  have parts : (faultWords q)[2] = joinFields [Machine.place 0 q.record.length.toNat,
      q.record.storeIndex.elim 0#32 fun i =>
        joinFields [Machine.place 16 (id i), Machine.place 31 1]] := by
    obtain ⟨_, _, _, _, _, _, _, _, storeIndex, _⟩ := q
    cases storeIndex <;> rfl
  rw [parts, elim_joinFields, presence_eq, Option.map_id, id_eq]
  simp only [layoutWord, faultFields2, List.map_cons, List.map_nil, joinFields_cons,
    joinFields_nil, BitVec.or_zero]

/-- LENGTH is shown whatever the store index. -/
theorem faultWords2_length (q : QueuedFault) :
    bits (faultWords q)[2] 0 7 = q.record.length.toNat := by
  rw [faultWords2_eq]
  refine shown_below q.record.length.isLt (Nat.le_of_ble_eq_true rfl) ?_
  simp

theorem faultWords2_layout {q : QueuedFault} (inside : ∀ i ∈ q.record.storeIndex, i < 2048) :
    Layout (faultWords q)[2] (faultFields2 q) := by
  refine ⟨faultWords2_eq q, rfl, q.record.length.isLt, ?_, bit_lt_two _⟩
  have below := option_map_getD_lt (f := id) (Nat.two_pow_pos 11) inside
  rwa [Option.map_id] at below

/-- The fields of FAULT HEAD word 3 (R172). -/
def faultFields3 (q : QueuedFault) : List BitField :=
  [⟨0, 20, (q.record.frame.map BitVec.toNat).getD 0⟩, ⟨31, 1, bit q.record.frame.isSome⟩]

theorem faultWords3_layout (q : QueuedFault) : Layout (faultWords q)[3] (faultFields3 q) := by
  refine ⟨?_, rfl, option_map_getD_lt (Nat.two_pow_pos 20) fun f _ => f.isLt, bit_lt_two _⟩
  have parts : (faultWords q)[3] = q.record.frame.elim 0#32 fun f =>
      joinFields [Machine.place 0 f.toNat, Machine.place 31 1] := by
    obtain ⟨_, _, _, _, _, _, _, _, _, frame⟩ := q
    cases frame <;> rfl
  rw [parts, elim_joinFields, presence_eq]
  rfl

end Sys2Proof.Machine

namespace Sys2Proof.Proofs

open Sys2Proof.Machine Sys2Proof.Statements

/-- Settles O15: each word is a layout of fields, which it shows, with nothing between them. -/
theorem portAndFaultWords : Obligations.PortAndFaultWords := by
  refine ⟨rfl, fun _ _ _ _ _ => rfl, fun s released => ?_⟩
  have held := Bool.eq_false_iff.mp released
  have summary := (portSummaryWord_layout s).read (number := 24) (if_neg held)
  have stallOrder := (stallOrderWord_layout s.faults).read (number := 25) (if_neg held)
  have head (k : Fin 4) (number : Fin 32) (offset : number.val = 17 + k.val) :
      s.hostRead number = (faultHeadWords s.faults)[k] := State.hostRead_faultHead released k offset
  refine ⟨fun p => ?_, summary.unnamed rfl, fun k => ?_, stallOrder.unnamed rfl,
    fun records stalled => ?_, fun empty => ?_, fun first rest records => ?_⟩
  · have part : portSummaryPart s p ⊆ portSummaryFields s := fun f mem =>
      List.mem_flatMap.mpr ⟨p, mem_allPorts p, mem⟩
    obtain ⟨code, gate, bound, _⟩ := summary.shows_part part trivial
    exact ⟨code, gate, bound⟩
  · have places : ∀ k : Fin 6, k.val ∈ [0, 1, 2, 3, 4, 5] := by decide
    exact stallOrder.shown_of_mem (List.mem_map.mpr ⟨k, places k, rfl⟩)
  · have depth := (faultDepthWord_layout records stalled).read (number := 16) (if_neg held)
    exact depth.shows (depth.unnamed rfl)
  · have zero (k : Fin 4) : (faultHeadWords s.faults)[k] = 0#32 := by
      rw [faultHeadWords, empty]
      exact Vector.getElem_replicate k.isLt
    exact ⟨(head 0 17 rfl).trans (zero 0), (head 1 18 rfl).trans (zero 1),
      (head 2 19 rfl).trans (zero 2), (head 3 20 rfl).trans (zero 3)⟩
  · have words : faultHeadWords s.faults = faultWords first := by rw [faultHeadWords, records]
    rw [words] at head
    have word0 := (faultWords0_layout first).read (head 0 17 rfl)
    have word3 := (faultWords3_layout first).read (head 3 20 rfl)
    refine word0.shows ⟨word0.unnamed rfl, head 1 18 rfl, ?_, fun inside => ?_,
      word3.shows (word3.unnamed rfl)⟩
    · rw [head 2 19 rfl]
      exact faultWords2_length first
    · have word2 := (faultWords2_layout inside).read (head 2 19 rfl)
      have unnamed : unnamedZero (s.hostRead 19) [(0, 7), (16, 11), (31, 1)] := word2.unnamed rfl
      obtain ⟨_, index⟩ := word2.shows unnamed
      exact index

end Sys2Proof.Proofs
end

section
/-! PROOFS. The result words of READ CONTEXT, PROBE, READ PORT and READ WINDOW (R175, R176) as
layouts of fields. -/

namespace Sys2Proof.Machine

open Sys2Proof Sys2Proof.Statements

/-! ## READ CONTEXT -/

/-- The fields of READ CONTEXT RESULT0 (R175). -/
def contextFields (c : Context) : List BitField :=
  [⟨0, 1, bit c.defined⟩, ⟨1, 1, bit c.readOnly⟩, ⟨4, 3, c.bindCount⟩, ⟨8, 2, c.mark.code⟩]

theorem contextWords0_layout {c : Context} (bindCount : c.bindCount ≤ 6) :
    Layout (contextWords c)[0] (contextFields c) := by
  refine ⟨?_, rfl, bit_lt_two _, bit_lt_two _,
    lt_two_pow_of_le bindCount rfl, c.mark.code_lt⟩
  have parts : (contextWords c)[0] = joinFields [placeBit 0 c.defined, placeBit 1 c.readOnly,
      Machine.place 4 c.bindCount, Machine.place 8 c.mark.code] := rfl
  rw [parts, placeBit_eq_place, placeBit_eq_place]
  rfl

/-! ## PROBE -/

/-- The fields of image word 0 (R176). -/
def imageFields0 (e : MapEntry) : List BitField :=
  [⟨0, 20, e.fields.frame.toNat⟩, ⟨24, 1, bit e.fields.valid⟩, ⟨25, 1, bit e.fields.read⟩,
    ⟨26, 1, bit e.fields.write⟩, ⟨27, 1, bit e.fields.touched⟩, ⟨28, 1, bit e.fields.dirty⟩,
    ⟨31, 1, bit (decide (e.check = .bad))⟩]

theorem imageWord0_layout (e : MapEntry) : Layout (imageWord0 e) (imageFields0 e) := by
  refine ⟨?_, rfl, e.fields.frame.isLt, bit_lt_two _, bit_lt_two _, bit_lt_two _, bit_lt_two _,
    bit_lt_two _, bit_lt_two _⟩
  simp only [imageWord0, placeBit_eq_place]
  rfl

/-- A set of ports shown as bits: bit `n` for Pn. -/
theorem portBits_layout (ports : List PortId) :
    Layout (portBits ports) (flagFields allPorts (·.val) ports.contains) :=
  ⟨joinFields_ones mem_allPorts ports (·.val), rfl, flagFields_fit ..⟩

theorem mem_copyHolders_iff (s : State) (i : Nat) (q : PortId) :
    q ∈ s.copyHolders i ↔ ∃ copy ∈ s.ports[q].lookaside, copy.storeIndex = i := by
  simp [State.copyHolders, mem_allPorts]

/-- A port's bit is set when it is in the set. -/
theorem portBits_bit_iff (ports : List PortId) (q : PortId) :
    bits (portBits ports) q.val 1 = 1 ↔ q ∈ ports := by
  have shown : bits (portBits ports) q.val 1 = bit (ports.contains q) :=
    (portBits_layout ports).shown_of_mem (List.mem_map.mpr ⟨q, mem_allPorts q, rfl⟩)
  rw [shown, bit_eq_one_iff, List.contains_iff_mem]

/-! ## READ PORT -/

theorem mem_allWindows (w : WindowId) : w ∈ allWindows := by
  revert w; decide

/-- The fields of READ PORT below the hold set. -/
def portFieldsBelow (port : Port) : List BitField :=
  [⟨0, 3, port.burst.code⟩, ⟨4, 1, bit (decide (port.gate = .admitted))⟩,
    ⟨5, 1, bit port.binding.isSome⟩, ⟨8, 4, (port.binding.map Fin.val).getD 0⟩]

/-- The fields of READ PORT above the hold set. -/
def portFieldsAbove (port : Port) : List BitField :=
  [⟨16, 4, port.lookaside.length⟩, ⟨20, 1, bit port.link.waiting.isSome⟩,
    ⟨21, 1, bit port.burst.request.isSome⟩,
    ⟨22, 1, bit (port.burst.request.any fun r => decide (r.direction = .write))⟩,
    ⟨24, 7, (port.burst.request.map fun r => r.length.toNat).getD 0⟩]

/-- The hold set, one bit for each window. -/
def holdFields (holdSet : List WindowId) : List BitField :=
  flagFields allWindows (fun w => 12 + w.val) holdSet.contains

/-- The fields of READ PORT RESULT0 (R175). -/
def portFields (port : Port) : List BitField :=
  portFieldsBelow port ++ (holdFields port.burst.holdSet ++ portFieldsAbove port)

theorem requestBits_eq (request : Option CurrentRequest) :
    requestBits request = joinFields [Machine.place 21 (bit request.isSome),
      Machine.place 22 (bit (request.any fun r => decide (r.direction = .write))),
      Machine.place 24 ((request.map fun r => r.length.toNat).getD 0)] := by
  cases request with
  | none =>
    show 0#32 = joinFields [Machine.place 21 0, Machine.place 22 0, Machine.place 24 0]
    rw [place_zero, place_zero, place_zero]
    rfl
  | some r =>
    show joinFields [_, placeBit 22 (directionBit r.direction), _] = _
    rw [placeBit_eq_place, directionBit_eq]
    rfl

theorem portWords0_layout {port : Port} (copies : port.lookaside.length ≤ 8) :
    Layout (portWords port)[0] (portFields port) := by
  refine ⟨?_, rfl, port.burst.code_lt, bit_lt_two _, bit_lt_two _,
    option_map_getD_lt (Nat.two_pow_pos 4) fun c _ => c.isLt, bit_lt_two _, bit_lt_two _,
    bit_lt_two _, bit_lt_two _, lt_two_pow_of_le copies rfl,
    bit_lt_two _, bit_lt_two _, bit_lt_two _,
    option_map_getD_lt (Nat.two_pow_pos 7) fun r _ => r.length.isLt⟩
  have parts : (portWords port)[0] = joinFields [Machine.place 0 port.burst.code,
      placeBit 4 (decide (port.gate = .admitted)), placeBit 5 port.binding.isSome,
      port.binding.elim 0#32 fun c => Machine.place 8 c.val,
      joinFields (port.burst.holdSet.map fun w => Machine.place (12 + w.val) 1),
      Machine.place 16 port.lookaside.length, placeBit 20 port.link.waiting.isSome,
      requestBits port.burst.request] := by
    obtain ⟨binding, _, _, _, _, _⟩ := port
    cases binding <;> rfl
  rw [parts, joinFields_ones mem_allWindows, requestBits_eq, elim_place]
  simp only [layoutWord, portFields, holdFields, portFieldsBelow, portFieldsAbove, List.map_append,
    joinFields_append, List.map_cons, List.map_nil, joinFields_cons, joinFields_nil,
    placeBit_eq_place, BitVec.or_assoc, BitVec.or_zero]

theorem portWords1_eq (port : Port) :
    (portWords port)[1] = (port.burst.request.map CurrentRequest.address).getD 0#32 := by
  obtain ⟨_, _, burst, _, _, _⟩ := port
  cases burst <;> rfl

/-! ## READ WINDOW -/

/-- An address with its bits 0–1 taken as zero is its number of words placed at bit 2. -/
theorem alignedBits_eq_place (a : Word) : alignedBits a = Machine.place 2 (a.toNat / 4) := by
  have shifted : BitVec.ofNat 32 (a.toNat / 4) = a >>> 2 := by
    refine BitVec.eq_of_toNat_eq ?_
    rw [BitVec.toNat_ushiftRight, Nat.shiftRight_eq_div_pow, BitVec.toNat_ofNat]
    exact Nat.mod_eq_of_lt (by omega)
  have mask : BitVec.allOnes 32 <<< 2 = 0xFFFFFFFC#32 := by decide
  rw [Machine.place, shifted, BitVec.shiftLeft_ushiftRight, mask, alignedBits]

/-- The fields of a word address with two flags in its bits 0 and 1. -/
def alignedFields (a : Word) (bit0 bit1 : Bool) : List BitField :=
  [⟨2, 30, a.toNat / 4⟩, ⟨0, 1, bit bit0⟩, ⟨1, 1, bit bit1⟩]

/-- A word address with two flags in its bits 0 and 1, as a number. -/
theorem joinFields_aligned_toNat {a : Word} (aligned : a.toNat % 4 = 0) (bit0 bit1 : Bool) :
    (joinFields [alignedBits a, placeBit 0 bit0, placeBit 1 bit1]).toNat =
      a.toNat + bit bit0 + 2 * bit bit1 := by
  have layout : Layout (joinFields [alignedBits a, placeBit 0 bit0, placeBit 1 bit1])
      (alignedFields a bit0 bit1) := by
    have fits : a.toNat / 4 < 2 ^ 30 := by have := a.isLt; omega
    refine ⟨?_, rfl, fits, bit_lt_two _, bit_lt_two _⟩
    rw [alignedBits_eq_place, placeBit_eq_place, placeBit_eq_place]
    rfl
  obtain ⟨address, first, second, _⟩ := layout.shows trivial
  have below := (joinFields [alignedBits a, placeBit 0 bit0, placeBit 1 bit1]).isLt
  simp only [BitField.ShownIn, bits, Nat.reducePow] at address first second
  omega

/-- The fields of READ WINDOW RESULT2 (R175). -/
def windowFields2 (w : Window) : List BitField :=
  [⟨0, 6, w.portSet.toNat⟩, ⟨16, 16, w.hitCount⟩,
    ⟨6, 3, (w.lastHit.map fun h => h.port.val).getD 0⟩,
    ⟨9, 7, (w.lastHit.map fun h => h.length.toNat).getD 0⟩]

theorem windowWords2_layout {w : Window} (hitCount : w.hitCount ≤ 65535) :
    Layout (windowWords w)[2] (windowFields2 w) := by
  refine ⟨?_, rfl, w.portSet.isLt, lt_two_pow_of_le hitCount rfl,
    option_map_getD_lt (Nat.two_pow_pos 3) fun h _ => portNumber_lt h.port,
    option_map_getD_lt (Nat.two_pow_pos 7) fun h _ => h.length.isLt⟩
  have parts : (windowWords w)[2] = joinFields [Machine.place 0 w.portSet.toNat,
      Machine.place 16 w.hitCount, w.lastHit.elim 0#32 fun h =>
        joinFields [Machine.place 6 h.port.val, Machine.place 9 h.length.toNat]] := by
    obtain ⟨_, _, _, _, _, _, _, _, lastHit⟩ := w
    cases lastHit <;> rfl
  rw [parts, elim_joinFields]
  simp only [layoutWord, windowFields2, List.map_cons, List.map_nil, joinFields_cons,
    joinFields_nil, BitVec.or_zero]

/-- The address, the presence bit and the direction of LAST HIT. -/
theorem windowWords3_toNat {w : Window} (aligned : ∀ h ∈ w.lastHit, h.address.toNat % 4 = 0) :
    (windowWords w)[3].toNat = (w.lastHit.map fun h =>
      h.address.toNat + 1 + 2 * bit (decide (h.direction = .write))).getD 0 := by
  obtain ⟨_, _, _, _, _, _, _, _, lastHit⟩ := w
  cases lastHit with
  | none => rfl
  | some h =>
    show (joinFields [alignedBits h.address, placeBit 0 true,
      placeBit 1 (directionBit h.direction)]).toNat = _
    rw [joinFields_aligned_toNat (aligned h rfl), directionBit_eq]
    rfl

end Sys2Proof.Machine

namespace Sys2Proof.Proofs

open Sys2Proof.Machine Sys2Proof.Statements

/-- Settles O16: each word is a layout of fields, which it shows, with nothing between them. -/
theorem resultFormats : Obligations.ResultFormats := by
  refine ⟨⟨fun c base pages bindCount => ?_, fun s i inside => ?_⟩,
    fun port copies _ => ?_, fun w low high hitCount lastHit => ?_⟩
  · have layout := contextWords0_layout bindCount
    exact layout.shows ⟨layout.unnamed rfl, place_toNat (base.trans (by decide)),
      place_toNat (lt_two_pow_of_le pages rfl), rfl⟩
  · have layout := imageWord0_layout (s.store.entry i)
    obtain ⟨frame, valid, read, write, touched, dirty, bad, _⟩ := layout.shows trivial
    exact ⟨place_toNat (inside.trans (by decide)), frame, layout.gap rfl, valid, read, write,
      touched, dirty, layout.gap rfl, bad, rfl,
      fun q => (portBits_bit_iff _ q).trans (mem_copyHolders_iff s i q),
      (portBits_layout (s.copyHolders i)).unnamed rfl, rfl⟩
  · have layout := portWords0_layout copies
    obtain ⟨code, gate, bound, context, _⟩ := layout.shows_part (part := portFieldsBelow port)
      (fun f mem => List.mem_append_left _ mem) trivial
    refine ⟨code, gate, bound, context, fun w => ?_,
      layout.shows_part (part := portFieldsAbove port)
        (fun f mem => List.mem_append_right _ (List.mem_append_right _ mem))
        ⟨layout.unnamed rfl, portWords1_eq port, rfl, rfl⟩⟩
    exact layout.shown_of_mem (List.mem_append_right _ (List.mem_append_left _
      (List.mem_map.mpr ⟨w, mem_allWindows w, rfl⟩)))
  · have layout := windowWords2_layout hitCount
    obtain ⟨portSet, hits, port, length, _⟩ := layout.shows trivial
    exact ⟨joinFields_aligned_toNat low _ _, joinFields_aligned_toNat high _ _, portSet, port,
      length, hits, windowWords3_toNat lastHit⟩

end Sys2Proof.Proofs
end

section
/-! PROOFS. The writes to EVENTS and EVENT ENABLE (section 11.1): which flags an acknowledgement leaves
set, and the word that the host reads back. -/

namespace Sys2Proof.Machine

open Sys2Proof Sys2Proof.Statements

variable {s : State}

/-! ## The acknowledgement (R178) -/

theorem exec_eventsAcknowledge_of_released (released : s.chip.resetHeld = false) (word : Word) :
    exec (.eventsAcknowledge word) s = .next (s.updateFlags fun f => f.acknowledge word) :=
  congrArg Host.Outcome.next (if_neg (Bool.eq_false_iff.mp released))

theorem bitOf_eq_false_iff (w : Word) (i : Nat) : bitOf w i = false ↔ bits w i 1 = 0 := by
  rw [bits, bit_as_number, bitOf]
  cases w.getLsbD i <;> simp

/-- A latched flag outlives the acknowledgement exactly when its bit of the word is 0. -/
theorem acknowledged_iff (flag : Bool) (word : Word) (i : Nat) :
    (flag && !bitOf word i) = true ↔ flag = true ∧ bits word i 1 = 0 := by
  rw [Bool.and_eq_true, Bool.not_eq_true', bitOf_eq_false_iff]

/-! ## The enables (R179) -/

theorem exec_eventEnableWrite_of_released (released : s.chip.resetHeld = false) (word : Word) :
    exec (.eventEnableWrite word) s =
      .next { s with chip := { s.chip with enables := enablesOfWord word } } :=
  congrArg Host.Outcome.next (if_neg (Bool.eq_false_iff.mp released))

/-- Bits of a word, each put back at its own place, are the word under the mask of those places. -/
theorem joinFields_bitOf (places : List Nat) (w : Word) :
    joinFields (places.map fun i => placeBit i (bitOf w i)) =
      w &&& joinFields (places.map fun i => placeBit i true) := by
  have one (i : Nat) : placeBit i (bitOf w i) = w &&& placeBit i true := by
    refine BitVec.eq_of_getLsbD_eq fun k below => ?_
    rw [BitVec.getLsbD_and, placeBit_getLsbD, placeBit_getLsbD, bitOf]
    by_cases same : k = i <;> simp [same]
  induction places with
  | nil => exact BitVec.and_zero.symm
  | cons i rest ih =>
    rw [List.map_cons, joinFields_cons, one, ih, List.map_cons, joinFields_cons,
      BitVec.and_or_distrib_left]

/-- EVENT ENABLE reads back the bits of the eight enables in the word written. -/
theorem enablesWord_enablesOfWord (word : Word) :
    enablesWord (enablesOfWord word) = word &&& 0x00001F07#32 :=
  joinFields_bitOf [0, 1, 2, 8, 9, 10, 11, 12] word

theorem State.hostRead_enables (released : s.chip.resetHeld = false) :
    s.hostRead 14 = enablesWord s.chip.enables :=
  if_neg (Bool.eq_false_iff.mp released)

end Sys2Proof.Machine

namespace Sys2Proof.Proofs

open Sys2Proof.Machine Sys2Proof.Statements

/-- Settles O12: the acknowledgement keeps each flag whose bit is 0, and the enables are bits of the
word at the places where EVENT ENABLE shows them. -/
theorem eventRegisterWrites : Obligations.EventRegisterWrites := by
  refine ⟨fun s word released => ?_, fun s word released => ?_⟩
  · have run := exec_eventsAcknowledge_of_released released word
    exact ⟨_, run, run, rfl, acknowledged_iff _ word 8, acknowledged_iff _ word 9,
      acknowledged_iff _ word 10, acknowledged_iff _ word 11, acknowledged_iff _ word 12,
      rfl, rfl, rfl⟩
  · have run := exec_eventEnableWrite_of_released released word
    refine ⟨_, run, run, rfl, ?_⟩
    rw [State.hostRead_enables (by exact released)]
    exact enablesWord_enablesOfWord word

end Sys2Proof.Proofs
end

section
/-! PROOFS. QUIESCE, WAKE and SET FRAME LIMIT (sections 11.2 and 11.3): the modes that take them, the
requests that a WAKE takes at the ports, and the limit in force. -/

namespace Sys2Proof.Machine

open Sys2Proof Sys2Proof.Statements

variable {s u : State} {q : PortId}

/-! ## QUIESCE (R181) -/

theorem performQuiesce_of_running (running : s.chip.mode = .running) (params : ParamWords) :
    performQuiesce params s = performedOk (s.setMode .quiescing).reachQuiet :=
  if_pos running

theorem performQuiesce_of_not_running (stopped : s.chip.mode ≠ .running) (params : ParamWords) :
    performQuiesce params s = performedFail s .wrongState :=
  if_neg stopped

/-! ## The takes of a WAKE (R36, R182) -/

theorem State.tryTake_port_of_ne (s : State) {p : PortId} (other : p ≠ q) :
    (s.tryTake p).ports[q] = s.ports[q] := by
  rcases s.tryTake_cases p with ⟨eq, _⟩ | ⟨_, _, _, eq⟩ <;> rw [eq]
  exact s.updatePort_other p q _ other

/-- What a take makes of a port turns on the port and chip control alone. -/
theorem State.tryTake_port_congr (port : u.ports[q] = s.ports[q]) (chip : u.chip = s.chip) :
    (u.tryTake q).ports[q] = (s.tryTake q).ports[q] := by
  have ready : u.ready q = s.ready q := by simp only [State.ready, port, chip]
  rcases s.tryTake_cases q with ⟨eq, none | busy⟩ | ⟨r, waiting, yes, eq⟩
  · rw [eq, State.tryTake_of_no_request (port ▸ none), port]
  · rw [eq, State.tryTake_of_not_ready (Bool.eq_false_iff.mp (ready.trans busy)), port]
  · rw [eq, State.tryTake_of_ready (port ▸ waiting) (ready.trans yes), State.updatePort_same,
      State.updatePort_same, port]

theorem foldTake_port_of_not_mem {ports : List PortId} (unlisted : q ∉ ports) (s : State) :
    (ports.foldl (fun t p => t.tryTake p) s).ports[q] = s.ports[q] := by
  induction ports generalizing s with
  | nil => rfl
  | cons p rest ih =>
    rw [List.mem_cons, not_or] at unlisted
    obtain ⟨other, unlisted⟩ := unlisted
    exact (ih unlisted _).trans (s.tryTake_port_of_ne (Ne.symm other))

/-- Each port of the list is left as its own take leaves it. -/
theorem foldTake_port_of_mem {ports : List PortId} (once : ports.Nodup) (listed : q ∈ ports)
    (s : State) :
    (ports.foldl (fun t p => t.tryTake p) s).ports[q] = (s.tryTake q).ports[q] := by
  induction ports generalizing s with
  | nil => cases listed
  | cons p rest ih =>
    obtain ⟨apart, once⟩ := List.nodup_cons.mp once
    rcases List.mem_cons.mp listed with rfl | listed
    · exact foldTake_port_of_not_mem apart _
    · have other : p ≠ q := fun same => apart (same ▸ listed)
      exact (ih once listed _).trans
        (State.tryTake_port_congr (s.tryTake_port_of_ne other) (s.tryTake_chip p))

/-- The takes change the ports alone. -/
theorem foldTake_frame (ports : List PortId) (s : State) :
    ports.foldl (fun t p => t.tryTake p) s =
      { s with ports := (ports.foldl (fun t p => t.tryTake p) s).ports } := by
  induction ports generalizing s with
  | nil => rfl
  | cons p rest ih =>
    rw [List.foldl_cons, ih]
    rcases s.tryTake_cases p with ⟨eq, _⟩ | ⟨_, _, _, eq⟩ <;> rw [eq]
    rfl

/-- The state after a WAKE: RUNNING, with the takes that READY then allows. -/
def State.woken (s : State) : State :=
  allPorts.foldl (fun t p => t.tryTake p) (s.setMode .running)

theorem performWake_of_running (running : s.chip.mode = .running) (params : ParamWords) :
    performWake params s = performedFail s .wrongState :=
  if_pos running

theorem performWake_of_not_running (stopped : s.chip.mode ≠ .running) (params : ParamWords) :
    performWake params s = performedOk s.woken :=
  if_neg stopped

theorem State.woken_eq (s : State) :
    s.woken = { s with chip := { s.chip with mode := .running }, ports := s.woken.ports } :=
  foldTake_frame allPorts (s.setMode .running)

theorem State.woken_port (s : State) (p : PortId) :
    s.woken.ports[p] = ((s.setMode .running).tryTake p).ports[p] :=
  foldTake_port_of_mem (by decide) (mem_allPorts p) _

theorem State.woken_port_of_taken {p : PortId} {r : Request}
    (waiting : s.ports[p].link.waiting = some r) (admitted : s.ports[p].gate = .admitted)
    (idle : s.ports[p].burst = .idle) (released : s.chip.resetHeld = false) :
    s.woken.ports[p] = taking s.ports[p] r := by
  have ready : (s.setMode .running).ready p = true :=
    (State.ready_iff _ p).mpr ⟨admitted, idle, rfl, released⟩
  rw [s.woken_port p, State.tryTake_of_ready (r := r) (by exact waiting) ready,
    State.updatePort_same]
  rfl

theorem State.woken_port_of_not_taken {p : PortId}
    (none : s.ports[p].link.waiting = none ∨ s.ports[p].gate = .suspended ∨
      s.ports[p].burst ≠ .idle ∨ s.chip.resetHeld = true) :
    s.woken.ports[p] = s.ports[p] := by
  have same : (s.setMode .running).tryTake p = s.setMode .running := by
    rcases none with none | busy
    · exact State.tryTake_of_no_request none
    · refine State.tryTake_of_not_ready fun ready => ?_
      obtain ⟨admitted, idle, _, released⟩ := (State.ready_iff _ p).mp ready
      rcases busy with suspended | active | held
      · exact nomatch suspended.symm.trans admitted
      · exact active idle
      · exact nomatch held.symm.trans released
  rw [s.woken_port p, same]
  rfl

/-! ## SET FRAME LIMIT (R183) -/

/-- RESULT0 is the limit as a word (R175). -/
theorem limitWords_eq (limit : Nat) :
    limitWords limit = #v[BitVec.ofNat 32 limit, 0#32, 0#32, 0#32] := by
  rw [limitWords, Machine.place, BitVec.shiftLeft_zero]

theorem performSetFrameLimit_of_not_quiet
    (other : s.chip.mode ≠ .quiet ∨ s.memory.holder ≠ .free) (params : ParamWords) :
    performSetFrameLimit params s = ⟨s, .notQuiet, limitWords s.chip.frameLimit⟩ :=
  if_pos other

theorem performSetFrameLimit_of_bad_limit
    (still : ¬ (s.chip.mode ≠ .quiet ∨ s.memory.holder ≠ .free)) {params : ParamWords}
    (bad : params[0].toNat = 0 ∨ 1048576 < params[0].toNat) :
    performSetFrameLimit params s = ⟨s, .badParameter, limitWords s.chip.frameLimit⟩ :=
  (if_neg still).trans (if_pos bad)

theorem performSetFrameLimit_of_limit
    (still : ¬ (s.chip.mode ≠ .quiet ∨ s.memory.holder ≠ .free)) {params : ParamWords}
    (range : ¬ (params[0].toNat = 0 ∨ 1048576 < params[0].toNat)) :
    performSetFrameLimit params s =
      ⟨{ s with chip := { s.chip with frameLimit := params[0].toNat } }, .ok,
        limitWords params[0].toNat⟩ :=
  (if_neg still).trans (if_neg range)

end Sys2Proof.Machine

namespace Sys2Proof.Proofs

open Sys2Proof.Machine Sys2Proof.Statements

/-- Settles O48: QUIESCE by its mode; WAKE leaves each port as the take at that port does. -/
theorem quiesceAndWake : Obligations.QuiesceAndWake := by
  refine ⟨fun s taken => congrArg Host.Outcome.next ?_, fun s taken =>
    ⟨fun running => congrArg Host.Outcome.next ?_, fun stopped =>
      ⟨s.woken.ports, congrArg Host.Outcome.next ?_, fun p =>
        ⟨fun _ => State.woken_port_of_taken, State.woken_port_of_not_taken⟩⟩⟩⟩
  · split
    · next running => exact s.performCommand_ends taken (performQuiesce_of_running running _)
    · next stopped => exact s.performCommand_ends taken (performQuiesce_of_not_running stopped _)
  · exact s.performCommand_ends taken (performWake_of_running running _)
  · rw [← s.woken_eq]
    exact s.performCommand_ends taken (performWake_of_not_running stopped _)

/-- Settles O49: the two checks in order, then the limit. -/
theorem setFrameLimit : Obligations.SetFrameLimit := by
  intro s taken
  refine congrArg Host.Outcome.next ?_
  simp only [← limitWords_eq]
  split
  · next other => exact s.performCommand_ends taken (performSetFrameLimit_of_not_quiet other _)
  · next still =>
    split
    · next bad => exact s.performCommand_ends taken (performSetFrameLimit_of_bad_limit still bad)
    · next range => exact s.performCommand_ends taken (performSetFrameLimit_of_limit still range)

end Sys2Proof.Proofs
end

section
/-! PROOFS. The resets (section 11.4): what a reset makes of a port, of its link and of the memory port,
the values of the power-on column, and that the machine right after reset obeys every law. -/

namespace Sys2Proof.Machine

open Sys2Proof Sys2Proof.Statements

/-! ## A port, the memory port and a context at a reset (R32, R52, R53, R110) -/

theorem Port.reset_link (port : Port) : port.reset.link = linkAfterReset port := by
  unfold Port.reset linkAfterReset
  cases port.burst <;> rfl

/-- A port after a pin or soft reset: its reset values, the words of its buffer, and its link with the
answer to a burst. -/
theorem Port.reset_eq (port : Port) :
    port.reset =
      { binding := none, gate := .suspended, burst := .idle, buffer := port.buffer,
        lookaside := [], link := linkAfterReset port } := by
  rw [← port.reset_link]
  rfl

theorem getElem_ofFn_reset (s : State) (p : PortId) :
    (Vector.ofFn fun q : PortId => s.ports[q].reset)[p] =
      { binding := none, gate := .suspended, burst := .idle, buffer := s.ports[p].buffer,
        lookaside := [], link := linkAfterReset s.ports[p] } :=
  (Vector.getElem_ofFn (f := fun q : PortId => s.ports[q].reset) p.isLt).trans s.ports[p].reset_eq

theorem MemoryPort.reset_eq (m : MemoryPort) :
    m.reset = { m with holder := if m.transaction = none then .free else .discarding } := by
  unfold MemoryPort.reset
  cases m.transaction <;> rfl

/-! ## The power-on values (R185) -/

/-- The power-on state, with any ports at their reset values, any level of the reset input and any
queue. -/
theorem powerOnValues_of_atReset {ports : Vector Port 6} (values : ∀ p : PortId, ports[p].atReset)
    (resetHeld : Bool) (pending : List Instr) :
    powerOnValues { State.reset with
      ports, chip := { ChipControl.initial with resetHeld }, pending } :=
  ⟨fun _ => rfl, rfl, rfl, values, rfl, rfl, rfl, rfl, rfl, rfl⟩

theorem State.reset_port (p : PortId) : State.reset.ports[p] = Port.initial :=
  Vector.getElem_replicate p.isLt

theorem State.reset_atReset (p : PortId) : State.reset.ports[p].atReset := by
  rw [State.reset_port p]
  exact ⟨rfl, rfl, rfl, rfl⟩

theorem State.reset_burst (p : PortId) : State.reset.ports[p].burst = .idle :=
  congrArg Port.burst (State.reset_port p)

theorem State.reset_ready (p : PortId) : State.reset.ready p = false := by
  rw [← Bool.not_eq_true, State.ready_iff, State.reset_port p]
  rintro ⟨admitted, _⟩
  exact nomatch admitted

/-! ## The laws right after reset -/

theorem State.reset_tableLawful : State.reset.TableLawful :=
  .of_free (fun c => Vector.getElem_replicate c.isLt)
    (fun p => congrArg Port.binding (State.reset_port p)) rfl

theorem State.reset_lookasideLawful : State.reset.LookasideLawful :=
  .of_ports State.reset_tableLawful fun p =>
    .of_empty (congrArg Port.lookaside (State.reset_port p)) fun _ _ walking =>
      nomatch (State.reset_burst p).symm.trans walking

theorem State.reset_faultsLawful : State.reset.FaultsLawful :=
  .of_reset rfl State.reset_burst

theorem State.reset_memoryLawful : State.reset.MemoryLawful :=
  State.memoryLawful_iff.mpr ⟨State.reset_faultsLawful,
    .of_reset State.reset_burst rfl nofun (iff_of_false nofun fun ne => ne rfl)⟩

theorem State.reset_limitLawful : State.reset.LimitLawful :=
  .of_reset State.reset_burst rfl ChipControl.initial_range (fun _ => rfl) nofun

theorem State.reset_waitingLawful : State.reset.WaitingLawful :=
  State.waitingLawful_iff.mpr ⟨.of_reset State.reset_atReset rfl rfl, nofun⟩

end Sys2Proof.Machine

namespace Sys2Proof.Proofs

open Sys2Proof.Machine Sys2Proof.Statements

/-- Settles O50: the performance is the soft reset, read port by port and record by record. -/
theorem softReset : Obligations.SoftReset := by
  intro s taken
  refine ⟨s.softReset.ports, s.softReset.contexts, congrArg Host.Outcome.next ?_,
    getElem_ofFn_reset s, fun c => Vector.getElem_ofFn c.isLt⟩
  rw [← s.memory.reset_eq]
  exact s.performCommand_ends taken rfl

/-- Settles O51: the assertion of an input not held is the pin reset, read port by port. -/
theorem pinReset : Obligations.PinReset := by
  refine fun s => ⟨fun released => ⟨s.pinReset.ports, ?_, getElem_ofFn_reset s⟩, rfl⟩
  have assertion : exec .pinReset s = .next s.pinReset :=
    congrArg Host.Outcome.next (if_neg (Bool.eq_false_iff.mp released))
  rw [assertion, State.pinReset, s.memory.reset_eq]
  rfl

/-- Settles O3: the power-on values are those of State.reset, and each word of the window is read from
them. -/
theorem resetWords : Obligations.ResetWords :=
  ⟨powerOnValues_of_atReset State.reset_atReset false [], rfl, by decide, by decide, by decide,
    State.reset_ready, State.hint_of_no_enable rfl⟩

/-- Settles O52: every block but the links is that of State.reset. -/
theorem powerOnReset : Obligations.PowerOnReset := by
  intro s
  have port (p : PortId) : (Vector.ofFn fun q : PortId => s.ports[q].powerOn)[p] =
      s.ports[p].powerOn := Vector.getElem_ofFn p.isLt
  refine ⟨_, rfl, powerOnValues_of_atReset (atReset_of_ofFn Port.atReset_powerOn s) _ _,
    State.hint_of_no_enable rfl, fun p => ?_, rfl, rfl⟩
  dsimp only
  rw [port p]
  exact ⟨rfl, rfl⟩

/-- Settles O60: a machine with every block at its reset values obeys each group of laws. -/
theorem resetObeysTheLaws : Obligations.ResetObeysTheLaws :=
  ⟨State.reset_store_wf, State.reset_tableLawful, State.reset_lookasideLawful,
    State.reset_faultsLawful, State.reset_memoryLawful, State.reset_limitLawful,
    State.reset_waitingLawful⟩

end Sys2Proof.Proofs
end

section
/-! PROOFS. The queue of the commands that wait belongs to the step (log 3): what each event leaves of
it, that no command changes it, and what a step does with it. -/

namespace Sys2Proof.Machine

open Sys2Proof

variable (s : State)

/-! ## Translation -/

@[simp] theorem State.splitPages_pending (p : PortId) (c : ContextId) (r : CurrentRequest) :
    (s.splitPages p c r).pending = s.pending := by
  unfold State.splitPages
  split
  · exact s.decideFault_pending ..
  · rfl

@[simp] theorem State.fenceCheck_pending (p : PortId) (c : ContextId) (r : CurrentRequest) :
    (s.fenceCheck p c r).pending = s.pending := by
  unfold State.fenceCheck
  split
  · exact State.settle_pending _
  · exact s.splitPages_pending p c r

@[simp] theorem State.openBurst_pending (p : PortId) (r : CurrentRequest) :
    (s.openBurst p r).pending = s.pending := by
  unfold State.openBurst
  split
  · exact s.decideFault_pending ..
  · split
    · exact s.decideFault_pending ..
    · exact s.fenceCheck_pending ..

@[simp] theorem State.lookup_pending (p : PortId) (i page : Nat) (direction : Direction) :
    (s.lookup p i page direction).pending = s.pending := by
  unfold State.lookup
  split
  · rfl
  · exact s.readAndMark_pending ..

@[simp] theorem State.passPage_pending (p : PortId) (c : ContextId) (r : CurrentRequest) (walk : Walk)
    (result : PageResult) : (s.passPage p c r walk result).pending = s.pending := by
  unfold State.passPage
  split
  · split
    · exact s.decideFault_pending ..
    · rfl
  · exact s.watchCompare_pending ..

@[simp] theorem State.lookupPage_pending (p : PortId) (c : ContextId) (r : CurrentRequest)
    (walk : Walk) : (s.lookupPage p c r walk).pending = s.pending := by
  unfold State.lookupPage
  dsimp only
  split
  · rw [State.decideFault_pending, State.lookup_pending]
  · rw [State.passPage_pending, State.lookup_pending]

/-! ## Memory's answers -/

@[simp] theorem State.finishBurst_pending (p : PortId) (r : CurrentRequest) :
    (s.finishBurst p r).pending = s.pending := by
  simp [State.finishBurst]

@[simp] theorem State.memoryFault_pending (p : PortId) (r : CurrentRequest) (seg : Segment) :
    (s.memoryFault p r seg).pending = s.pending := by
  simp [State.memoryFault]

@[simp] theorem State.answerSegment_pending (p : PortId) (r : CurrentRequest) (segs : Segments)
    (which : PageIndex) (answer : MemoryAnswer) :
    (s.answerSegment p r segs which answer).pending = s.pending := by
  unfold State.answerSegment
  split
  · exact s.memoryFault_pending ..
  · dsimp only
    split
    · rfl
    all_goals exact State.finishBurst_pending ..

@[simp] theorem State.answerLoad_pending (t : Transfer) (w : Work) (tr : Transaction)
    (answer : MemoryAnswer) : (s.answerLoad t w tr answer).pending = s.pending := by
  unfold State.answerLoad
  split <;> simp

@[simp] theorem State.acceptDump_pending (t : Transfer) (w : Work) :
    (s.acceptDump t w).pending = s.pending := by
  unfold State.acceptDump
  dsimp only
  split
  · exact State.endTransfer_pending ..
  · split
    · exact State.endTransfer_pending ..
    · rfl

@[simp] theorem State.answerDump_pending (t : Transfer) (w : Work) (clear : Bool) (tr : Transaction)
    (answer : MemoryAnswer) : (s.answerDump t w clear tr answer).pending = s.pending := by
  unfold State.answerDump
  split <;> simp

/-! ## The transfer engine's events -/

@[simp] theorem State.continueLoad_pending (t : Transfer) (w : Work) (rest : List ChunkImage) :
    (s.continueLoad t w rest).pending = s.pending := by
  unfold State.continueLoad
  split
  · exact s.endTransfer_pending _
  · split
    · exact s.requestChunk_pending ..
    · rfl

@[simp] theorem State.dumpAccess_pending (clear : Bool) (i : Nat) :
    (s.dumpAccess clear i).pending = s.pending := by
  unfold State.dumpAccess
  split
  · exact s.readAndClear_pending i
  · exact s.plainRead_pending i

@[simp] theorem State.readForDump_pending (t : Transfer) (w : Work) (clear : Bool) :
    (s.readForDump t w clear).pending = s.pending := by
  unfold State.readForDump
  dsimp only
  split <;> simp

/-! ## The command unit -/

@[simp] theorem State.takeCommand_pending (busy : CommandStatus) :
    (s.takeCommand busy).pending = s.pending := by
  rcases s.takeCommand_cases busy with eq | eq | ⟨_, _, eq⟩ <;> rw [eq]
  rfl

/-! ## Performances -/

/-- A check that turns the command away leaves the state as it is. -/
theorem Performed.check_pending {failed : Prop} [Decidable failed] {outcome : CommandOutcome}
    {rest : Performed} (h : rest.state.pending = s.pending) :
    (if failed then performedFail s outcome else rest).state.pending = s.pending := by
  split
  · rfl
  · exact h

theorem withPort_pending {w : Word} {act : PortId → Performed}
    (h : ∀ p, (act p).state.pending = s.pending) : (withPort w s act).state.pending = s.pending :=
  withPort_keeps (P := fun t => t.pending = s.pending) s rfl h

theorem performDefineContext_pending (params : ParamWords) :
    (performDefineContext params s).state.pending = s.pending := by
  rcases performDefineContext_cases params s with eq | ⟨_, _, _, _, _, _, _, _, eq⟩ <;> rw [eq]
  rfl

theorem performDeleteContext_pending (params : ParamWords) :
    (performDeleteContext params s).state.pending = s.pending := by
  rcases performDeleteContext_cases (s := s) params with eq | ⟨_, _, _, _, eq⟩ <;> rw [eq]
  rfl

theorem performReadContext_pending (params : ParamWords) :
    (performReadContext params s).state.pending = s.pending := by
  rw [performReadContext_eq]
  split <;> rfl

theorem performEntryWrite_pending (check : Check) (params : ParamWords) :
    (performEntryWrite check params s).state.pending = s.pending := by
  unfold performEntryWrite
  split
  · rfl
  · split
    · rfl
    · exact s.storeWrite_pending ..

theorem performProbe_pending (params : ParamWords) :
    (performProbe params s).state.pending = s.pending := by
  unfold performProbe
  split
  · rfl
  · exact s.plainRead_pending _

theorem performBindPort_pending (params : ParamWords) :
    (performBindPort params s).state.pending = s.pending := by
  rcases performBindPort_cases s params with eq | ⟨_, _, _, _, _, eq⟩ <;> rw [eq]
  rfl

theorem performReleasePort_pending (params : ParamWords) :
    (performReleasePort params s).state.pending = s.pending := by
  rcases performReleasePort_cases s params with eq | ⟨_, _, _, _, eq⟩ <;> rw [eq]
  rfl

theorem performResumeHeld_pending (params : ParamWords) :
    (performResumeHeld params s).state.pending = s.pending := by
  refine withPort_pending s fun p => ?_
  split
  · exact State.grant_pending _
  all_goals rfl

theorem performCancelHeld_pending (params : ParamWords) :
    (performCancelHeld params s).state.pending = s.pending := by
  refine withPort_pending s fun p => ?_
  split
  · exact s.decideFault_pending ..
  all_goals rfl

theorem performPopFault_pending (params : ParamWords) :
    (performPopFault params s).state.pending = s.pending := by
  unfold performPopFault
  split
  · rfl
  · exact State.handOff_pending _

theorem performStart_pending (context firstPage count : Word) (fence : Option Bool)
    (job : Option TransferJob) :
    (performStart context firstPage count fence job s).state.pending = s.pending := by
  rcases performStart_cases s context firstPage count fence job with
    eq | ⟨t, _, _, _, _, _, _, _, eq⟩ <;> rw [eq]
  exact s.startTransfer_pending t

theorem performSetWindow_pending (params : ParamWords) :
    (performSetWindow params s).state.pending = s.pending := by
  rw [performSetWindow_eq]
  split
  · exact Performed.check_pending s rfl
  · rfl

theorem performReadWindow_pending (params : ParamWords) :
    (performReadWindow params s).state.pending = s.pending := by
  rw [performReadWindow_eq]
  split <;> rfl

theorem performQuiesce_pending (params : ParamWords) :
    (performQuiesce params s).state.pending = s.pending := by
  unfold performQuiesce
  split
  · exact State.reachQuiet_pending _
  · rfl

/-- WAKE takes requests on the ports (R36) and nothing from the queue. -/
theorem State.woken_pending : s.woken.pending = s.pending := by
  rw [s.woken_eq]

theorem performWake_pending (params : ParamWords) :
    (performWake params s).state.pending = s.pending :=
  Performed.check_pending s s.woken_pending

theorem performSetFrameLimit_pending (params : ParamWords) :
    (performSetFrameLimit params s).state.pending = s.pending := by
  unfold performSetFrameLimit
  repeat' split
  all_goals rfl

/-- No performance changes the queue, SOFT RESET's included. -/
theorem performance_pending :
    ∀ e ∈ hostPerformances, ∀ params, (e.2 params s).state.pending = s.pending := by
  simp only [hostPerformances, List.forall_mem_cons]
  exact ⟨performDefineContext_pending s, performDeleteContext_pending s, performReadContext_pending s,
    performEntryWrite_pending s .good, performEntryWrite_pending s .bad, performProbe_pending s,
    performBindPort_pending s, performReleasePort_pending s,
    fun _ => withPort_pending s fun p => s.setGate_pending p _,
    fun _ => withPort_pending s fun p => State.tryTake_pending _ p,
    fun _ => withPort_pending s fun _ => rfl,
    fun _ => withPort_pending s fun p => s.updatePort_pending p _,
    performResumeHeld_pending s, performCancelHeld_pending s, performPopFault_pending s,
    fun _ => performStart_pending s .., fun _ => performStart_pending s ..,
    fun _ => performStart_pending s .., fun _ => Performed.check_pending s s.abort_pending,
    performSetWindow_pending s, performReadWindow_pending s, performQuiesce_pending s,
    performWake_pending s, performSetFrameLimit_pending s, fun _ => rfl, nofun⟩

theorem State.hostCommand_pending {code : BitVec 8} {perform : ParamWords → State → Performed}
    (mem : (code, perform) ∈ hostPerformances) (event : CommandEvent) :
    (s.hostCommand code perform event).pending = s.pending :=
  s.hostCommand_keeps (P := fun t => t.pending = s.pending) code perform event rfl
    (fun u busy same => (u.takeCommand_pending busy).trans same)
    fun u same _ => (performance_pending u _ mem _).trans same

/-! ## Every command, every step -/

/-- No command changes the queue: not an event of the part, nor a reset (log 3). -/
theorem exec_pending {c : Instr} {s t : State} (e : exec c s = .next t) : t.pending = s.pending := by
  refine exec_next_cases (P := fun t => t.pending = s.pending) e rfl ?host ?unknown ?overrun ?param
    ?acknowledge ?enable ?powerOn ?pin ?release ?present ?withdraw ?opening ?lookup ?resume ?segment
    ?loadChunk ?dumpChunk ?late ?discard ?loadBegin ?loadWrite ?fillWrite ?dumpRead ?complete
  case host => exact fun _ _ event mem => s.hostCommand_pending mem event
  case pin => exact fun _ => rfl
  case fillWrite =>
    intro t w value _ _
    have written : (s.writeRunEntry t value).pending = s.pending := s.writeRunEntry_pending t value
    split
    · rw [State.endTransfer_pending, written]
    · exact written
  all_goals
    intros
    simp

/-- With no command waiting the part idles (log 3). -/
theorem step_of_empty {s : State} (empty : s.pending = []) : step s = .next s := by
  simp only [step, empty]

/-- The command at the front leaves the queue and runs. -/
theorem step_of_cons (c : Instr) (rest : List Instr) (s : State) :
    step { s with pending := c :: rest } = exec c { s with pending := rest } := rfl

end Sys2Proof.Machine

namespace Sys2Proof.Proofs

open Sys2Proof.Machine

/-- Settles O1: the branch of the step for a queue with a front. -/
theorem stepRunsFrontCommand : Obligations.StepRunsFrontCommand := step_of_cons

/-- Settles O2: the step's branch for an empty queue, and the queue kept by each case of `exec`. -/
theorem queueBelongsToStep : Obligations.QueueBelongsToStep :=
  ⟨fun _ => step_of_empty, fun _ _ _ => exec_pending⟩

end Sys2Proof.Proofs
end
